-- ==== Sys2Proof/Word.lean ====
section
/-! DEFINITION. The word types of the block, each as wide as the rule that names it says. -/

namespace Sys2Proof

/-- A 32-bit register, operand, CycleGoal or response value (`00_scope.md` R6: `CW = 32`; `10_state.md` R25). -/
abbrev Word := BitVec 32

/-- A raw sample, a ring slot or a filtered word (`00_scope.md` R6: `RAWW = 16`). -/
abbrev Sample := BitVec 16

/-- A packed colour (`00_scope.md` R6: `COLW = 24`). -/
abbrev Color := BitVec 24

/-- A command word (`00_scope.md` R6: `CMDW = 40`; `30_encoding.md` R80). -/
abbrev CmdWord := BitVec 40

/-- The `op` field of a command word (`30_encoding.md` R80). -/
abbrev Opcode := BitVec 8

end Sys2Proof
end

