-- ==== Sys2Proof/Config.lean ====
section
/-! DEFINITION. What an implementation of the block fixes (the OPEN parameters of `00_scope.md` R6)
and the free values the spec leaves open. -/

namespace Sys2Proof

/-- The OPEN parameters of `00_scope.md` R6, fixed for the life of a block (`10_state.md` R46). The
model takes them as an argument: they stand in `State.cfg`, which nothing writes (log 3), and only
values the spec admits can stand there (`AdmittedParams`).
`ovh` has 31 bits because `0 <= OVH < 2^31`. -/
structure Params where
  /-- `NOM_T0H_NS`, nanoseconds. -/
  nomT0h  : Nat
  /-- `NOM_T0L_NS`, nanoseconds. -/
  nomT0l  : Nat
  /-- `NOM_T1H_NS`, nanoseconds. -/
  nomT1h  : Nat
  /-- `NOM_T1L_NS`, nanoseconds. -/
  nomT1l  : Nat
  /-- `NOM_TRST_NS`, nanoseconds. -/
  nomTrst : Nat
  /-- `OVH`, cycles. -/
  ovh     : BitVec 31
  /-- `PALETTE[0..7]` (`41_color_transmitter.md` R133). -/
  palette : Vector Color 8
  deriving DecidableEq, Repr

/-- The default palette of `41_color_transmitter.md` R133. -/
def Config.defaultPalette : Vector Color 8 :=
  #v[0x000000#24, 0x0000FF#24, 0xFF0000#24, 0xFF00FF#24, 0x00FF00#24, 0x00FFFF#24, 0xFFFF00#24, 0xFFFFFF#24]

/-- The reference configuration of `92_eei_decisions.md`: every default of R6, and `OVH = 0`.
DESIGN CHOICE (log 3): `State.reset` holds it (as `Config.referenceAdmitted`). -/
def Config.reference : Params :=
  { nomT0h := 350, nomT0l := 800, nomT1h := 700, nomT1l := 600, nomTrst := 50000
    ovh := 0, palette := Config.defaultPalette }

/-- The value the `RAW` word of channel `c` holds after a cycle of reset and before `ENV` writes it;
the first argument is the number of the draw. FREE VALUE (`10_state.md` R36, "it is any 16-bit value"; log 5). -/
opaque Config.freeRaw : Nat → Nat → Sample

/-- `resp_data` of a faulting command: the `k`-th value drawn. FREE VALUE
(`60_exceptions.md` R161, "unspecified (any value; a model must not depend on it)"; log 6). -/
opaque Config.freeResp : Nat → Word

end Sys2Proof
end

