-- ==== Sys2Proof/Syntax.lean ====
section
/-! DEFINITION. The operations of the block (`00_scope.md` R2), one constructor per row of
`spec/opcode_table.json`, and the assembler lines of `30_encoding.md` R88. -/

namespace Sys2Proof

/-- The eleven operations: ten commands and the event operation `UPDATE`. Each operand is exactly
as wide as `30_encoding.md` R83 reads it; ignored bits of `arg` are no operand. -/
inductive Instr where
  /-- `CTEN`, `40_cycle_timer.md` R101. -/
  | cten
  /-- `GOALC n`, `40_cycle_timer.md` R102. -/
  | goalc (n : Word)
  /-- `GOALMS ms`, `40_cycle_timer.md` R104. -/
  | goalms (ms : Word)
  /-- `REACHED goal`, `40_cycle_timer.md` R105. -/
  | reached (goal : Word)
  /-- `SLEEP n`, `40_cycle_timer.md` R107. -/
  | sleep (n : Word)
  /-- `TXINIT f`, `41_color_transmitter.md` R121. -/
  | txinit (f : Word)
  /-- `TX color`, `41_color_transmitter.md` R124. -/
  | tx (color : Color)
  /-- `TXIDX idx`, `41_color_transmitter.md` R132. -/
  | txidx (idx : BitVec 3)
  /-- `ACQINIT`, `42_acquisition_filter.md` R140. -/
  | acqinit
  /-- `ACQRD ch`, `42_acquisition_filter.md` R146. -/
  | acqrd (ch : Word)
  /-- `UPDATE`, the handler of the scan-complete event, `42_acquisition_filter.md` R142. -/
  | update
  deriving DecidableEq, Repr

/-- What selects an operation: a 40-bit command word (format `CMD`, `30_encoding.md` R80) or the
1-bit event word (format `EVT`, R82). -/
inductive Code where
  | cmd (w : CmdWord)
  | evt (e : BitVec 1)
  deriving DecidableEq, Repr

/-- Why `decode` rejects a code. -/
inductive Reject where
  /-- The `op` field is none of the ten of `30_encoding.md` R84: the command raises
  `IllegalCommand` (R85; `60_exceptions.md` R162). -/
  | illegalCommand (op : Opcode)
  /-- The event word is 0: no event, so no operation (`30_encoding.md` R82). -/
  | noEvent
  deriving DecidableEq, Repr

/-- The mnemonics of the ten commands, as an assembler line writes them (`30_encoding.md` R88). -/
inductive Mnemonic where
  | cten | goalc | goalms | reached | sleep | txinit | tx | txidx | acqinit | acqrd
  deriving DecidableEq, Repr

/-- One assembler line: a mnemonic and its operand, if it has one, as the literal's value
(`30_encoding.md` R88). The text form (literals, comments) is not modelled (log 16). -/
structure AsmLine where
  mn      : Mnemonic
  operand : Option Nat
  deriving DecidableEq, Repr

end Sys2Proof
end

