-- ==== Sys2Proof/WellFormed.lean ====
section
/-! DEFINITION. What is well formed: operations, assembler lines, parameters. -/

namespace Sys2Proof

/-- Every operation is well formed: "No operand value is reserved. Every 32-bit `arg` is legal for
every legal `op`" (`30_encoding.md` R86), and the operand types hold exactly the bits R83 reads. -/
def Instr.wellFormed : Instr → Bool
  | .cten => true
  | .goalc _ => true
  | .goalms _ => true
  | .reached _ => true
  | .sleep _ => true
  | .txinit _ => true
  | .tx _ => true
  | .txidx _ => true
  | .acqinit => true
  | .acqrd _ => true
  | .update => true

/-- Which mnemonics are followed by an operand (`30_encoding.md` R83, R88). -/
def Mnemonic.hasOperand : Mnemonic → Bool
  | .cten => false
  | .acqinit => false
  | .goalc => true
  | .goalms => true
  | .reached => true
  | .sleep => true
  | .txinit => true
  | .tx => true
  | .txidx => true
  | .acqrd => true

/-- A line has an operand exactly when its command takes one (`30_encoding.md` R88). -/
def AsmLine.operandPresent (l : AsmLine) : Bool :=
  l.operand.isSome == l.mn.hasOperand

/-- An operand is "in the range 0 to 2^32 - 1" (`30_encoding.md` R88). -/
def AsmLine.operandInRange (l : AsmLine) : Bool :=
  match l.operand with
  | none => true
  | some v => decide (v < 2 ^ 32)

/-- A line the assembler takes (`30_encoding.md` R88). -/
def AsmLine.wellFormed (l : AsmLine) : Bool :=
  l.operandPresent && l.operandInRange

/-- A bit pulse's nominal duration: 300 to 2000 nanoseconds (`00_scope.md` R6). -/
def pulseInRange (ns : Nat) : Bool :=
  decide (300 ≤ ns) && decide (ns ≤ 2000)

/-- The four pulse durations are in the range `00_scope.md` R6 requires. -/
def Params.pulsesInRange (p : Params) : Bool :=
  pulseInRange p.nomT0h && pulseInRange p.nomT0l && pulseInRange p.nomT1h && pulseInRange p.nomT1l

/-- The latch gap's duration is "near 50000" nanoseconds (`00_scope.md` R6). The spec gives the word no
number; DESIGN CHOICE (log 14): from half of it to twice it. -/
def Params.gapNear (p : Params) : Bool :=
  decide (25000 ≤ p.nomTrst) && decide (p.nomTrst ≤ 100000)

/-- `PALETTE[0] = 0x000000` (`41_color_transmitter.md` R133). -/
def Params.blackFirst (p : Params) : Bool :=
  p.palette[0] == 0#24

/-- The three 8-bit channels of a colour: `[23:16]`, `[15:8]`, `[7:0]` (`41_color_transmitter.md` R133). -/
def colorChannels (c : Color) : List (BitVec 8) :=
  [c.extractLsb' 16 8, c.extractLsb' 8 8, c.extractLsb' 0 8]

/-- `PALETTE[1]` is "blue": exactly one of its channels is not 0, and the spec leaves open which one
and its intensity (`00_scope.md` R6, `41_color_transmitter.md` R133). -/
def Params.blueSecond (p : Params) : Bool :=
  (colorChannels p.palette[1]).countP (fun ch => ch != 0#8) == 1

/-- The parameter values the spec admits (`00_scope.md` R6, `41_color_transmitter.md` R133);
`OVH < 2^31` holds by its width. -/
def Params.wellFormed (p : Params) : Bool :=
  p.pulsesInRange && p.gapNear && p.blackFirst && p.blueSecond

/-- The parameters of a block that can be built: "a model must require" their ranges (`00_scope.md`
R6). `State.cfg` has this type, so there is no state, and no step, of a block with other parameters. -/
structure AdmittedParams extends Params where
  admitted : toParams.wellFormed = true
  deriving DecidableEq, Repr

/-- The reference configuration is one the spec admits. -/
def Config.referenceAdmitted : AdmittedParams := { Config.reference with admitted := by decide }

end Sys2Proof
end

