-- ==== Sys2Proof/Decode.lean ====
section
/-! DEFINITION. Decoding and encoding: the command word (`30_encoding.md` R80, R83, R84, R85), the
event word (R82) and the assembler (R88). Every command has the one length of 40 bits (R87). -/

namespace Sys2Proof

/-! ## The opcode map (`30_encoding.md` R84) -/

abbrev opCten    : Opcode := 0x01#8
abbrev opGoalc   : Opcode := 0x02#8
abbrev opGoalms  : Opcode := 0x03#8
abbrev opReached : Opcode := 0x04#8
abbrev opSleep   : Opcode := 0x05#8
abbrev opTxinit  : Opcode := 0x08#8
abbrev opTx      : Opcode := 0x09#8
abbrev opTxidx   : Opcode := 0x0A#8
abbrev opAcqinit : Opcode := 0x10#8
abbrev opAcqrd   : Opcode := 0x11#8

/-- The ten legal opcodes, in the order of `30_encoding.md` R84. -/
def legalOpcodes : List Opcode :=
  [opCten, opGoalc, opGoalms, opReached, opSleep, opTxinit, opTx, opTxidx, opAcqinit, opAcqrd]

/-! ## Fields and operands (`30_encoding.md` R80, R83) -/

/-- `op`, bits 39:32. -/
def opField (w : CmdWord) : Opcode := w.extractLsb' 32 8

/-- `arg`, bits 31:0. -/
def argField (w : CmdWord) : Word := w.extractLsb' 0 32

/-- The colour of `TX`, `arg[23:0]`; `arg[31:24]` is ignored. -/
def argColor (arg : Word) : Color := arg.setWidth 24

/-- The palette index of `TXIDX`, `arg[2:0]`; `arg[31:3]` is ignored. -/
def argIdx (arg : Word) : BitVec 3 := arg.setWidth 3

/-- The command word `{op, arg}`. -/
def cmdWord (op : Opcode) (arg : Word) : CmdWord := op ++ arg

/-! ## Decoding -/

/-- A command word is selected by `op` alone (`30_encoding.md` R84); every other `op` is illegal
(R85) and `arg` is then not examined (`60_exceptions.md` R162). -/
def decodeCmd (w : CmdWord) : Except Reject Instr :=
  let op := opField w
  let arg := argField w
  if op = opCten then .ok .cten
  else if op = opGoalc then .ok (.goalc arg)
  else if op = opGoalms then .ok (.goalms arg)
  else if op = opReached then .ok (.reached arg)
  else if op = opSleep then .ok (.sleep arg)
  else if op = opTxinit then .ok (.txinit arg)
  else if op = opTx then .ok (.tx (argColor arg))
  else if op = opTxidx then .ok (.txidx (argIdx arg))
  else if op = opAcqinit then .ok .acqinit
  else if op = opAcqrd then .ok (.acqrd arg)
  else .error (.illegalCommand op)

/-- The event word: 1 is one event and selects `UPDATE`, 0 is no event (`30_encoding.md` R82). -/
def decodeEvt (e : BitVec 1) : Except Reject Instr :=
  if e = 1#1 then .ok .update else .error .noEvent

/-- The operation a code selects, or the reason there is none. -/
def decode : Code → Except Reject Instr
  | .cmd w => decodeCmd w
  | .evt e => decodeEvt e

/-! ## Encoding -/

/-- The code of an operation, ignored bits 0 (`30_encoding.md` R82, R83, R84). -/
def encode : Instr → Code
  | .cten => .cmd (cmdWord opCten 0)
  | .goalc n => .cmd (cmdWord opGoalc n)
  | .goalms ms => .cmd (cmdWord opGoalms ms)
  | .reached goal => .cmd (cmdWord opReached goal)
  | .sleep n => .cmd (cmdWord opSleep n)
  | .txinit f => .cmd (cmdWord opTxinit f)
  | .tx color => .cmd (cmdWord opTx (color.setWidth 32))
  | .txidx idx => .cmd (cmdWord opTxidx (idx.setWidth 32))
  | .acqinit => .cmd (cmdWord opAcqinit 0)
  | .acqrd ch => .cmd (cmdWord opAcqrd ch)
  | .update => .evt 1#1

/-- The bits of a word with opcode `op` that the block reads (`30_encoding.md` R83): all of `op` and
of `arg`, less the ignored bits. -/
def readBits (op : Opcode) : CmdWord :=
  if op = opCten ∨ op = opAcqinit then 0xFF00000000#40
  else if op = opTx then 0xFF00FFFFFF#40
  else if op = opTxidx then 0xFF00000007#40
  else 0xFFFFFFFFFF#40

/-! ## The assembler (`30_encoding.md` R88) -/

/-- The opcode of a mnemonic (`30_encoding.md` R84). -/
def Mnemonic.opcode : Mnemonic → Opcode
  | .cten => opCten
  | .goalc => opGoalc
  | .goalms => opGoalms
  | .reached => opReached
  | .sleep => opSleep
  | .txinit => opTxinit
  | .tx => opTx
  | .txidx => opTxidx
  | .acqinit => opAcqinit
  | .acqrd => opAcqrd

/-- The word of a line: the operand is placed in `arg[31:0]` unchanged, and a command without an
operand assembles with `arg = 0`; a line that is not well formed has no word. -/
def assemble (l : AsmLine) : Option CmdWord :=
  if l.wellFormed then some (cmdWord l.mn.opcode (BitVec.ofNat 32 (l.operand.getD 0))) else none

/-! ## The opcode table's own words -/

/-- The code whose bits the opcode table numbers as `w`, `nbits` of them. A command row has all its
40 bits in the table (its mask holds bits 39:32), so fewer bits are the 1-bit event word. -/
def tableCode (nbits w : Nat) : Code :=
  if nbits < 40 then .evt (BitVec.ofNat 1 w) else .cmd (BitVec.ofNat 40 w)

/-- The operation the decoder reads from an opcode-table word; `none` where it rejects it. -/
def decodeTableWord (nbits w : Nat) : Option Instr :=
  match decode (tableCode nbits w) with
  | .ok i => some i
  | .error _ => none

end Sys2Proof
end

