-- ==== Sys2Proof/Machine/State.lean ====
section
/-! DEFINITION. The machine's state: every piece of state `10_state.md` names, as plain data, the
parameters it was built with, and the inputs of the coming cycles. -/

namespace Sys2Proof.Machine

/-- The sequencer's state, the foreground's program counter (`10_state.md` R34). -/
inductive Seq where
  /-- `IDLE`: no command in execution. -/
  | idle
  /-- `EXEC`: a command that completes in one step. -/
  | exec
  /-- `SLP_WAIT`: the wait of `SLEEP`. -/
  | slpWait
  /-- `TX_ENTER`: a frame accepted, critical section not yet entered. -/
  | txEnter
  /-- `TX_HIGH`: the high phase of a bit period. -/
  | txHigh
  /-- `TX_LOW`: its low phase. -/
  | txLow
  /-- `TX_GAP`: the latch gap. -/
  | txGap
  deriving DecidableEq, Repr

/-- The two synchronous faults a command can raise (`60_exceptions.md` R160). They are responses,
not stops of the machine: see `State.raiseFault`. -/
inductive FaultCode where
  | illegalCommand
  | badChannel
  deriving DecidableEq, Repr

/-- One response: `resp_err` and `resp_data` in a cycle with `resp_valid = 1`
(`10_state.md` R22, `30_encoding.md` R81). -/
structure Response where
  err  : BitVec 2
  data : Word
  deriving DecidableEq, Repr

/-- The input ports in one cycle (`10_state.md` R20, R21, R24) and the schedule's choice. The
default of every field is the quiet world: no reset, no command, no write, no event. -/
structure Inputs where
  /-- `rst` (R20). -/
  rst      : Bool := false
  /-- `cmd_valid` (R21). -/
  cmdValid : Bool := false
  /-- `cmd_word[39:0]` (R21). -/
  cmdWord  : CmdWord := 0
  /-- `raw_we` (R24). -/
  rawWe    : Bool := false
  /-- `raw_ch[2:0]` (R24). -/
  rawCh    : BitVec 3 := 0
  /-- `raw_data[15:0]` (R24). -/
  rawData  : Sample := 0
  /-- `scan_done` (R24). -/
  scanDone : Bool := false
  /-- `cfg_fail[2:0]` (R24; `42_acquisition_filter.md` R141). -/
  cfgFail  : BitVec 3 := 0
  /-- The schedule's choice in this cycle (`60_exceptions.md` R169, `42_acquisition_filter.md`
  R142): whether an update that may start does start, and whether an update that is active takes
  its next step. `true` everywhere is the first-eligible schedule (log 10). -/
  updGo    : Bool := true
  deriving DecidableEq, Repr

/-- A word of one of the five indexed spaces (`20_memory.md` R60; `00_scope.md` R8). -/
inductive MemAddr where
  | raw (c : Fin 5)
  | ring (c : Fin 5) (k : Fin 32)
  | acc (c : Fin 5)
  | filt (c : Fin 5)
  | palette (i : Fin 8)
  deriving DecidableEq, Repr

/-- Which agent of the block takes a step in a cycle (`60_exceptions.md` R169, R170). -/
inductive Turn where
  /-- `rst = 1`: every register takes its reset value (`10_state.md` R20). -/
  | reset
  /-- The update engine takes a step. -/
  | handler
  /-- The sequencer takes a step of the command in `CMDREG`. -/
  | foreground
  /-- Neither has a step to take. -/
  | none
  deriving DecidableEq, Repr

/-- Why the machine stops. The spec's own faults are responses (`FaultCode`); the stops here stand
only for states no run reaches (log 13), to which the spec gives no step. -/
inductive Fault where
  /-- Raised by `TX` and `TXIDX` when `SEQ` is none of TX_ENTER, TX_HIGH, TX_LOW, TX_GAP. Safe: the
  spec's sequencer is never there with such a command (`60_exceptions.md` R180). -/
  | seqIncoherent
  /-- Raised by `UPDATE` when `UPD_ACTIVE = 1` and `UPD_CH` is 6 or 7. Safe: "The indices the block
  forms itself ... are always in range" (`20_memory.md` R64). -/
  | updChOutOfRange
  deriving DecidableEq, Repr

/-- Why a step is refused. -/
inductive Refusal where
  /-- Raised by `exec` for an instruction that has no meaning yet; safe. No arm of `exec` raises
  it: every instruction has its meaning. -/
  | notModelled (mnemonic : String)
  deriving DecidableEq, Repr

/-- The state of the block. One-bit registers are `Bool`s; `resp` and `scanAck` are the output
ports in the cycle that has just ended (log 12); `tape` and `freeCtr` are the model's own. -/
structure State where
  /-- The parameters of `00_scope.md` R6, in the ranges it requires; nothing writes them (`10_state.md`
  R46; log 3, log 14). -/
  cfg       : AdmittedParams
  /-- `CNT` (R25). -/
  cnt       : Word
  /-- `CNT_EN` (R26). -/
  cntEn     : Bool
  /-- `F_HZ` (R27). -/
  fHz       : Word
  /-- `T0H` (R28). -/
  t0h       : Word
  /-- `T0L` (R28). -/
  t0l       : Word
  /-- `T1H` (R28). -/
  t1h       : Word
  /-- `T1L` (R28). -/
  t1l       : Word
  /-- `TRST` (R28). -/
  trst      : Word
  /-- `GOAL` (R29). -/
  goal      : Word
  /-- `SHIFT` (R30). -/
  shift     : Color
  /-- `BITCNT` (R31). -/
  bitcnt    : BitVec 5
  /-- `LINE`, which is the port `line_out` (R32, R23). -/
  line      : Bool
  /-- `IRQ_MASK` (R33). -/
  irqMask   : Bool
  /-- `SEQ` (R34). -/
  seq       : Seq
  /-- `WAITING` (R53). -/
  waiting   : Bool
  /-- `OVHC` (R53). -/
  ovhc      : BitVec 31
  /-- `CMDREG` (R50). -/
  cmdreg    : CmdWord
  /-- `RAW[0..4]` (R36). -/
  raw       : Vector Sample 5
  /-- `RING[0..4][0..31]` (R37). -/
  ring      : Vector (Vector Sample 32) 5
  /-- `ACC[0..4]`, two's complement (R38). -/
  acc       : Vector Word 5
  /-- `FILT[0..4]` (R39). -/
  filt      : Vector Sample 5
  /-- `CURSOR` (R40). -/
  cursor    : BitVec 5
  /-- `SCAN_PEND` (R41). -/
  scanPend  : Bool
  /-- `IRQ_ARMED` (R42). -/
  irqArmed  : Bool
  /-- `UPD_ACTIVE` (R43). -/
  updActive : Bool
  /-- `UPD_CH` (R43). -/
  updCh     : BitVec 3
  /-- The response port: `none` is `resp_valid = 0` (R22). -/
  resp      : Option Response
  /-- `scan_ack` (R24). -/
  scanAck   : Bool
  /-- The inputs of the coming cycles, the present one first (log 2). -/
  tape      : List Inputs
  /-- How many free values have been drawn (log 7). -/
  freeCtr   : Nat
  deriving DecidableEq, Repr

/-- The inputs of the present cycle; past the end of the tape the world is quiet (log 2). -/
def State.inp (s : State) : Inputs := s.tape.headD {}

/-- Every register at the reset value of `10_state.md` R47, the parameters untouched. The table leaves
`RAW` unspecified, so its words are an argument. `freeCtr` is the model's own and goes on. -/
def State.resetWith (cfg : AdmittedParams) (raw : Vector Sample 5) (k : Nat) (tape : List Inputs) : State :=
  { cfg := cfg
    cnt := 0, cntEn := false, fHz := 0
    t0h := 0, t0l := 0, t1h := 0, t1l := 0, trst := 0
    goal := 0, shift := 0, bitcnt := 0, line := false, irqMask := false
    seq := .idle, waiting := false, ovhc := 0, cmdreg := 0
    raw := raw
    ring := Vector.replicate 5 (Vector.replicate 32 0)
    acc := Vector.replicate 5 0, filt := Vector.replicate 5 0, cursor := 0
    scanPend := false, irqArmed := false, updActive := false, updCh := 0
    resp := none, scanAck := false, tape := tape, freeCtr := k }

/-- The machine right after reset (`10_state.md` R47; `70_reset_and_hazards.md` R190), in the
reference configuration (log 3), with nothing on the tape (log 2). The spec gives `RAW` no value; here
its words are 0, DESIGN CHOICE (log 5). A reset in the course of a run draws free values instead
(`State.takeReset`). -/
def State.reset : State := State.resetWith Config.referenceAdmitted (Vector.replicate 5 0) 0 []

end Sys2Proof.Machine
end

