-- ==== Sys2Proof/Machine/Operands.lean ====
section
/-! DEFINITION. The operand computations: durations to cycles (`40_cycle_timer.md` R103,
`41_color_transmitter.md` R120), the effective length of a wait (`00_scope.md` R9), realised phase
lengths (`41_color_transmitter.md` R127), and what a word of a space means (`20_memory.md` R60). -/

namespace Sys2Proof.Machine

/-- `cyc_ms(ms, f) = trunc_32((u(ms) * u(f)) div 1000)` (`40_cycle_timer.md` R103). -/
def cycMs (ms f : Word) : Word := BitVec.ofNat 32 (ms.toNat * f.toNat / 1000)

/-- `cyc_ns(d, f) = trunc_32((d * u(f)) div 1000000000)` (`41_color_transmitter.md` R120). -/
def cycNs (d : Nat) (f : Word) : Word := BitVec.ofNat 32 (d * f.toNat / 1000000000)

/-- `OVH` as a 32-bit vector. -/
def ovhWord (p : Params) : Word := p.ovh.setWidth 32

/-- One entry of the Pulse Timing Table: `cyc_ns(d, f) -32 OVH` (`41_color_transmitter.md` R121). -/
def tableEntry (p : Params) (d : Nat) (f : Word) : Word := cycNs d f - ovhWord p

/-- `eff(T)`, the effective length of a wait (`00_scope.md` R9). -/
def eff (t : Word) : Nat := if t.toNat ≤ 2 ^ 31 then t.toNat else 0

/-- `D(T) = eff(T) + OVH`, the realised length of a phase begun with the entry `T`
(`41_color_transmitter.md` R127). -/
def phaseLen (p : Params) (t : Word) : Nat := eff t + p.ovh.toNat

/-- The entry of the high phase of a bit of value `b` (`41_color_transmitter.md` R126). -/
def State.highEntry (s : State) (b : Bool) : Word := if b then s.t1h else s.t0h

/-- The entry of the low phase of a bit of value `b` (`41_color_transmitter.md` R126). -/
def State.lowEntry (s : State) (b : Bool) : Word := if b then s.t1l else s.t0l

/-- The bit being sent, `SHIFT[23]` (`10_state.md` R30). -/
def State.sendBit (s : State) : Bool := s.shift.getLsbD 23

/-- The ring slot the cursor names (`10_state.md` R40). -/
def State.slot (s : State) : Fin 32 := ⟨s.cursor.toNat, s.cursor.isLt⟩

/-- The palette slot a 3-bit index names (`41_color_transmitter.md` R132). -/
def paletteSlot (idx : BitVec 3) : Fin 8 := ⟨idx.toNat, idx.isLt⟩

/-- `MemRead(space, idx, n)`, zero-extended to 32 bits (`00_scope.md` R8, `20_memory.md` R60). -/
def State.memRead (s : State) : MemAddr → Word
  | .raw c => s.raw[c].setWidth 32
  | .ring c k => s.ring[c][k].setWidth 32
  | .acc c => s.acc[c]
  | .filt c => s.filt[c].setWidth 32
  | .palette i => s.cfg.palette[i].setWidth 32

/-- `MemWrite(space, idx, n, v)`, `v` truncated to the width of the space's word. `PALETTE` is
read-only and discards the write (`10_state.md` R35, `20_memory.md` R60). -/
def State.memWrite (s : State) (a : MemAddr) (v : Word) : State :=
  match a with
  | .raw c => { s with raw := s.raw.set c (v.setWidth 16) }
  | .ring c k => { s with ring := s.ring.set c (s.ring[c].set k (v.setWidth 16)) }
  | .acc c => { s with acc := s.acc.set c v }
  | .filt c => { s with filt := s.filt.set c (v.setWidth 16) }
  | .palette _ => s

end Sys2Proof.Machine
end

