-- ==== Sys2Proof/Machine/Flags.lean ====
section
/-! DEFINITION. The block's conditions. It has no condition codes and no arithmetic flags
(`10_state.md` R44); what it tests are the goal comparison (`40_cycle_timer.md` R105, R108), the
eligibility of an update (`60_exceptions.md` R169) and `cmd_ready` (`10_state.md` R21), and what it
chooses by them is whose turn a cycle is. -/

namespace Sys2Proof.Machine

/-- `s32(CNT -32 goal) >= 0`: greater-or-equal on the signed difference
(`40_cycle_timer.md` R105; `90_conflicts.md` C1). -/
def reachedAt (cnt goal : Word) : Bool := decide (0 ≤ (cnt - goal).toInt)

/-- An *eligible* cycle (`60_exceptions.md` R169). -/
def State.eligible (s : State) : Bool := s.scanPend && s.irqArmed && !s.irqMask && !s.updActive

/-- An update starts in this cycle: the cycle is eligible and the schedule chooses it
(`60_exceptions.md` R169). -/
def State.updStarts (s : State) : Bool := s.eligible && s.inp.updGo

/-- The foreground *runs* in this cycle (`60_exceptions.md` R170). -/
def State.foregroundRuns (s : State) : Bool := !s.updActive && !s.updStarts

/-- `cmd_ready` (`10_state.md` R21). -/
def State.cmdReady (s : State) : Bool := decide (s.seq = .idle) && !s.updActive

/-- A command is accepted in this cycle (`10_state.md` R21). -/
def State.accepts (s : State) : Bool := s.inp.cmdValid && s.cmdReady

/-- Whose turn the present cycle is (`10_state.md` R20; `60_exceptions.md` R169, R170). -/
def State.turn (s : State) : Turn :=
  if s.inp.rst then .reset
  else if s.updActive then (if s.inp.updGo then .handler else .none)
  else if s.updStarts then .handler
  else if s.seq = .idle then .none
  else .foreground

end Sys2Proof.Machine
end

