-- ==== Sys2Proof/Machine/Ops.lean ====
section
/-! DEFINITION. The operations every meaning is written over: response, fault, interrupt entry and
return, the primitive `wait`, fetch, acceptance, and the two ends of a clock cycle. -/

namespace Sys2Proof.Machine

/-! ## Ending a command -/

/-- `respond(v)`: the response with no error is given and `SEQ <- IDLE`
(`00_scope.md` R8, `10_state.md` R22). -/
def State.respond (s : State) (v : Word) : State :=
  { s with resp := some { err := 0, data := v }, seq := .idle }

/-- The code of a fault, `resp_err` (`60_exceptions.md` R160). -/
def FaultCode.code : FaultCode → BitVec 2
  | .illegalCommand => 1
  | .badChannel => 2

/-- `raise <Fault>`: taking a synchronous fault (`60_exceptions.md` R161). The response carries the
code, its data is a free value (log 6), `SEQ <- IDLE`, and no other register is written. There is
no handler and no return from it. -/
def State.raiseFault (s : State) (f : FaultCode) : State :=
  { s with
    resp := some { err := f.code, data := Config.freeResp s.freeCtr }
    seq := .idle
    freeCtr := s.freeCtr + 1 }

/-! ## The scan-complete interrupt: entry and return -/

/-- Entry, the start step of `UPDATE` (`60_exceptions.md` R171). Nothing is saved. That a
`scan_done` of the same cycle sets `SCAN_PEND` again is `State.endCycle`'s (R167, the set wins). -/
def State.enterUpdate (s : State) : State :=
  { s with scanPend := false, updActive := true, updCh := 0, scanAck := true }

/-- Return, the cursor step of `UPDATE` (`42_acquisition_filter.md` R144; `60_exceptions.md` R172).
`CURSOR` has 5 bits, so the sum is modulo 32. -/
def State.leaveUpdate (s : State) : State :=
  { s with cursor := s.cursor + 1, updActive := false, updCh := 0 }

/-! ## The filter -/

/-- The channel step of `UPDATE` for channel `c` (`42_acquisition_filter.md` R143). `RAW[c]` is read
once; `memWrite` to `FILT` is the `trunc_16`. -/
def State.channelStep (s : State) (c : Fin 5) : State :=
  let x := s.memRead (.raw c)
  let old := s.memRead (.ring c s.slot)
  let a2 := s.memRead (.acc c) - old + x
  let t := ((s.memWrite (.acc c) a2).memWrite (.ring c s.slot) x).memWrite (.filt c) (a2.sshiftRight 5)
  { t with updCh := t.updCh + 1 }

/-- What `ACQINIT` clears and sets (`42_acquisition_filter.md` R140). -/
def State.clearFilter (s : State) : State :=
  { s with
    acc := Vector.replicate 5 0
    filt := Vector.replicate 5 0
    ring := Vector.replicate 5 (Vector.replicate 32 0)
    cursor := 0
    scanPend := false
    irqArmed := true }

/-! ## The primitive wait -/

/-- `begin(T)` of `41_color_transmitter.md` R137 (`wait(T)` begins, `40_cycle_timer.md` R108).
The second component says that the step which follows the wait falls in this same cycle: the wait
is satisfied at once and `OVH = 0`, a phase of length 0 (`41_color_transmitter.md` R127; log 8). -/
def State.beginWait (s : State) (t : Word) : State × Bool :=
  let g := s.cnt + t
  if reachedAt s.cnt g then
    if s.cfg.ovh = 0 then ({ s with goal := g, waiting := false }, true)
    else ({ s with goal := g, waiting := false, ovhc := s.cfg.ovh - 1 }, false)
  else ({ s with goal := g, waiting := true }, false)

/-- `due()` of `41_color_transmitter.md` R137: whether the step that follows the wait happens in
this cycle, and the bookkeeping if it does not. It runs only in a cycle in which the foreground runs,
so `OVHC` is frozen under an update, in the latch gap too (DEDUCED, log 11). -/
def State.due (s : State) : State × Bool :=
  if s.waiting then
    if reachedAt s.cnt s.goal then
      if s.cfg.ovh = 0 then (s, true)
      else ({ s with waiting := false, ovhc := s.cfg.ovh - 1 }, false)
    else (s, false)
  else if s.ovhc = 0 then (s, true)
  else ({ s with ovhc := s.ovhc - 1 }, false)

/-! ## The steps of a frame (`41_color_transmitter.md` R124, R137) -/

/-- `ENTER`. -/
def State.txEnterStep (s : State) (color : Color) : State :=
  { s with irqMask := true, shift := color, bitcnt := 24, seq := .txHigh, waiting := false, ovhc := 0 }

/-- `RISE`: the line goes high and the high phase of `SHIFT[23]` begins. -/
def State.txRise (s : State) : State × Bool :=
  { s with line := true, seq := .txHigh }.beginWait (s.highEntry s.sendBit)

/-- `FALL`: the line goes low and the low phase of `SHIFT[23]` begins. -/
def State.txFall (s : State) : State × Bool :=
  { s with line := false, seq := .txLow }.beginWait (s.lowEntry s.sendBit)

/-- `NEXT`, its own part: `SHIFT <- {SHIFT[22:0], 0}` and `BITCNT <- BITCNT - 1`, modulo 32
(DESIGN CHOICE, log 20: the count is never 0 there). -/
def State.txShift (s : State) : State :=
  { s with shift := s.shift <<< 1, bitcnt := s.bitcnt - 1 }

/-- `EXIT`: the critical section ends and the latch gap begins. -/
def State.txExit (s : State) : State × Bool :=
  { s with irqMask := false, seq := .txGap }.beginWait s.trst

/-- `DONE`: the response; `WAITING` and `OVHC` are 0 at idle (`10_state.md` R53). -/
def State.txDone (s : State) : State :=
  { s.respond 0 with waiting := false, ovhc := 0 }

/-- `EXIT`, and `DONE` in the same cycle when the gap has length 0 (log 8). -/
def State.txFinish (s : State) : State :=
  if s.txExit.2 then s.txExit.1.txDone else s.txExit.1

/-- `NEXT`: shift and count; then, in the same cycle, `RISE` of the next bit, or `EXIT` after the
24th. Where a phase has length 0 the steps that follow it fall in this cycle too, and of two writes
to one register the later wins (`41_color_transmitter.md` R127, `10_state.md` R51; log 8). The first
argument bounds the bit periods one cycle can hold; `BITCNT` has 5 bits, so 32 are enough (log 20). -/
def State.txNextWithin : Nat → State → State
  | 0, s => s
  | n + 1, s =>
    if s.bitcnt = 1 then s.txShift.txFinish
    else if s.txShift.txRise.2 then
      if s.txShift.txRise.1.txFall.2 then State.txNextWithin n s.txShift.txRise.1.txFall.1
      else s.txShift.txRise.1.txFall.1
    else s.txShift.txRise.1

/-- `NEXT` and whatever follows it in the same cycle. -/
def State.txNext (s : State) : State := State.txNextWithin 32 s

/-- `FALL`, and `NEXT` in the same cycle when the low phase has length 0. -/
def State.txFallOn (s : State) : State :=
  if s.txFall.2 then s.txFall.1.txNext else s.txFall.1

/-- `RISE`, and `FALL` in the same cycle when the high phase has length 0. -/
def State.txRiseOn (s : State) : State :=
  if s.txRise.2 then s.txRise.1.txFallOn else s.txRise.1

/-- One cycle of the transmitter, by `SEQ` (`41_color_transmitter.md` R137). `color` is read by
`ENTER` alone. A sequencer in none of the transmitter's states has no step of a frame to take
(log 13). -/
def State.txStep (s : State) (color : Color) : Host.Outcome State Fault Refusal :=
  match s.seq with
  | .txEnter => .next (s.txEnterStep color)
  | .txHigh =>
    if s.line then (if s.due.2 then .next s.due.1.txFallOn else .next s.due.1)
    else .next s.txRiseOn
  | .txLow => if s.due.2 then .next s.due.1.txNext else .next s.due.1
  | .txGap => if s.due.2 then .next s.due.1.txDone else .next s.due.1
  | .idle => .fault .seqIncoherent
  | .exec => .fault .seqIncoherent
  | .slpWait => .fault .seqIncoherent

/-- One cycle of `SLEEP` (`41_color_transmitter.md` R137, "the same machine applies with `OVH` read
as 0"; `40_cycle_timer.md` R107). -/
def State.sleepStep (s : State) (n : Word) : State :=
  if s.waiting then
    if reachedAt s.cnt s.goal then { s.respond 0 with waiting := false } else s
  else if reachedAt s.cnt (s.cnt + n) then { s.respond 0 with goal := s.cnt + n, waiting := false }
  else { s with goal := s.cnt + n, waiting := true }

/-! ## Fetch and acceptance -/

/-- The command in execution, read from `CMDREG` (`10_state.md` R50, `20_memory.md` R72). -/
def State.fetch (s : State) : Except Reject Instr := decode (.cmd s.cmdreg)

/-- The sequencer state that acceptance of a word with this `op` leads to
(`10_state.md` R34, R50; `60_exceptions.md` R180). -/
def startSeq (op : Opcode) : Seq :=
  if op = opSleep then .slpWait
  else if op = opTx ∨ op = opTxidx then .txEnter
  else .exec

/-! ## The two ends of a clock cycle -/

/-- The output pulses of the previous cycle end (`10_state.md` R22, R24). -/
def State.beginCycle (s : State) : State := { s with resp := none, scanAck := false }

/-- The raw write port (`10_state.md` R24): a write with `u(raw_ch) >= 5` is ignored. -/
def rawWrite (raw : Vector Sample 5) (i : Inputs) : Vector Sample 5 :=
  if i.rawWe then
    if h : i.rawCh.toNat < 5 then raw.set i.rawCh.toNat i.rawData else raw
  else raw

/-- The clock edge that ends a cycle. `held` is the state held in the cycle, `t` what the agent
whose turn it was has written (`10_state.md` R51). Besides that: the tick (`40_cycle_timer.md`
R100), acceptance (`10_state.md` R50), the raw write, after the channel step's read (`20_memory.md`
R68), and `scan_done`, whose set wins over a clear (`60_exceptions.md` R167). -/
def State.endCycle (held t : State) : State :=
  { t with
    cnt := if held.cntEn then t.cnt + 1 else t.cnt
    cmdreg := if held.accepts then held.inp.cmdWord else t.cmdreg
    seq := if held.accepts then startSeq (opField held.inp.cmdWord) else t.seq
    raw := rawWrite t.raw held.inp
    scanPend := (held.inp.scanDone && held.irqArmed) || t.scanPend
    tape := held.tape.tail }

/-- A cycle with `rst = 1`: every register takes its reset value, whatever the block was doing
(`10_state.md` R20, R47; `70_reset_and_hazards.md` R190, R191); the parameters stay. `RAW` is
unspecified ("it is any 16-bit value", R36): its words are free values (log 5). The other inputs of
the cycle are lost (DEDUCED, log 15). -/
def State.takeReset (s : State) : State :=
  let k := s.freeCtr
  State.resetWith s.cfg #v[Config.freeRaw k 0, Config.freeRaw k 1, Config.freeRaw k 2, Config.freeRaw k 3, Config.freeRaw k 4]
    (k + 1) s.tape.tail

/-- The clock edge after an agent's step: a next state goes on through it, a stop stays a stop. -/
def State.finish (held : State) : Host.Outcome State Fault Refusal → Host.Outcome State Fault Refusal
  | .next t => .next (held.endCycle t)
  | .fault r => .fault r
  | .refused r => .refused r

/-! ## Placing an operation where the next step fetches it -/

/-- The present cycle's inputs changed, the later ones kept. -/
def State.withInp (s : State) (i : Inputs) : State := { s with tape := i :: s.tape.tail }

/-- `s` as acceptance of the command word `w` leaves it (`10_state.md` R50), with the next cycle one
in which the foreground runs: no reset and no update in it (log 4). -/
def State.withCommand (s : State) (w : CmdWord) : State :=
  { s.withInp { s.inp with rst := false, updGo := false } with
    cmdreg := w, seq := startSeq (opField w), waiting := false, ovhc := 0, updActive := false }

/-- `s` with the event word `e` latched in `SCAN_PEND` and the next cycle one in which the update it
asks for starts (`60_exceptions.md` R167, R169; log 4, log 18). -/
def State.withEvent (s : State) (e : BitVec 1) : State :=
  { s.withInp { s.inp with rst := false, updGo := true } with
    scanPend := decide (e = 1#1), irqArmed := true, irqMask := false, updActive := false }

/-- The code placed where the next step fetches it. -/
def State.withCode (s : State) : Code → State
  | .cmd w => s.withCommand w
  | .evt e => s.withEvent e

end Sys2Proof.Machine
end

