-- ==== Sys2Proof/Machine/Acquisition.lean ====
section
/-! DEFINITION. The meanings of the acquisition and filter operations (`42_acquisition_filter.md`). -/

namespace Sys2Proof.Machine

/-- `ACQINIT` (R140, R141): clears the filter, arms the interrupt, responds with `cfg_fail` sampled
in this step. -/
def execAcqinit (s : State) : Host.Outcome State Fault Refusal :=
  .next (s.clearFilter.respond (s.inp.cfgFail.setWidth 32))

/-- `ACQRD ch` (R146, R147): responds `FILT[ch]`, or raises `BadChannel` when `u(ch) >= 5`. -/
def execAcqrd (ch : Word) (s : State) : Host.Outcome State Fault Refusal :=
  if h : ch.toNat < 5 then .next (s.respond (s.memRead (.filt ⟨ch.toNat, h⟩)))
  else .next (s.raiseFault .badChannel)

/-- `UPDATE` (R142), its next step by `UPD_ACTIVE` and `UPD_CH` (`60_exceptions.md` R180): the start
step in an eligible cycle and in no other (R169, R171; DEDUCED, log 19: elsewhere nothing happens),
the channel step (R143), the cursor step (R144). `UPD_CH` is never 6 or 7 (`20_memory.md` R64; log 13). -/
def execUpdate (s : State) : Host.Outcome State Fault Refusal :=
  if s.updActive then
    if h : s.updCh.toNat < 5 then .next (s.channelStep ⟨s.updCh.toNat, h⟩)
    else if s.updCh = 5 then .next s.leaveUpdate
    else .fault .updChOutOfRange
  else if s.eligible then .next s.enterUpdate
  else .next s

end Sys2Proof.Machine
end

