-- ==== Sys2Proof/Machine/Timer.lean ====
section
/-! DEFINITION. The meanings of the Cycle Timer commands (`40_cycle_timer.md`). Each is one step of
the sequencer, in a cycle in which the foreground runs (`60_exceptions.md` R170). -/

namespace Sys2Proof.Machine

/-- `CTEN` (R101): `CNT_EN <- 1 ; respond(0)`. `CNT` is not touched. -/
def execCten (s : State) : Host.Outcome State Fault Refusal :=
  .next ({ s with cntEn := true }.respond 0)

/-- `GOALC n` (R102): `respond(CNT +32 n)`. -/
def execGoalc (n : Word) (s : State) : Host.Outcome State Fault Refusal :=
  .next (s.respond (s.cnt + n))

/-- `GOALMS ms` (R104): `respond(CNT +32 cyc_ms(ms, F_HZ))`. -/
def execGoalms (ms : Word) (s : State) : Host.Outcome State Fault Refusal :=
  .next (s.respond (s.cnt + cycMs ms s.fHz))

/-- `REACHED goal` (R105): responds 1 iff `s32(CNT -32 goal) >= 0`. -/
def execReached (goal : Word) (s : State) : Host.Outcome State Fault Refusal :=
  .next (s.respond (if reachedAt s.cnt goal then 1 else 0))

/-- `SLEEP n` (R107, R108; `41_color_transmitter.md` R137): one cycle of its wait. -/
def execSleep (n : Word) (s : State) : Host.Outcome State Fault Refusal :=
  .next (s.sleepStep n)

end Sys2Proof.Machine
end

