-- ==== Sys2Proof/Machine/Transmitter.lean ====
section
/-! DEFINITION. The meanings of the Color Protocol Transmitter commands (`41_color_transmitter.md`). -/

namespace Sys2Proof.Machine

/-- `TXINIT f` (R121): `F_HZ` and the five entries of the Pulse Timing Table, in one step. -/
def execTxinit (f : Word) (s : State) : Host.Outcome State Fault Refusal :=
  .next ({ s with
    fHz := f
    t0h := tableEntry s.cfg.toParams s.cfg.nomT0h f
    t0l := tableEntry s.cfg.toParams s.cfg.nomT0l f
    t1h := tableEntry s.cfg.toParams s.cfg.nomT1h f
    t1l := tableEntry s.cfg.toParams s.cfg.nomT1l f
    trst := tableEntry s.cfg.toParams s.cfg.nomTrst f }.respond 0)

/-- `TX color` (R124, R137): one cycle of the frame, whether or not a `TXINIT` has written the table
(`70_reset_and_hazards.md` R193; DESIGN CHOICE, log 9). -/
def execTx (color : Color) (s : State) : Host.Outcome State Fault Refusal :=
  s.txStep color

/-- `TXIDX idx` (R132): one cycle of the frame that sends `PALETTE[idx]`. -/
def execTxidx (idx : BitVec 3) (s : State) : Host.Outcome State Fault Refusal :=
  s.txStep ((s.memRead (.palette (paletteSlot idx))).setWidth 24)

end Sys2Proof.Machine
end

