-- ==== Sys2Proof/Machine/Dispatch.lean ====
section
/-! DEFINITION. One arm per operation of `spec/opcode_table.json`. -/

namespace Sys2Proof.Machine

/-- The meaning of an operation: one step of the agent that runs it. -/
def exec (i : Instr) (s : State) : Host.Outcome State Fault Refusal :=
  match i with
  | .cten => Sys2Proof.Machine.execCten s
  | .goalc n => Sys2Proof.Machine.execGoalc n s
  | .goalms ms => Sys2Proof.Machine.execGoalms ms s
  | .reached goal => Sys2Proof.Machine.execReached goal s
  | .sleep n => Sys2Proof.Machine.execSleep n s
  | .txinit f => Sys2Proof.Machine.execTxinit f s
  | .tx color => Sys2Proof.Machine.execTx color s
  | .txidx idx => Sys2Proof.Machine.execTxidx idx s
  | .acqinit => Sys2Proof.Machine.execAcqinit s
  | .acqrd ch => Sys2Proof.Machine.execAcqrd ch s
  | .update => Sys2Proof.Machine.execUpdate s

end Sys2Proof.Machine
end

