-- ==== Sys2Proof/Machine/Step.lean ====
section
/-! DEFINITION. One step of the machine is one cycle of `clk` (`10_state.md` R51; log 1). -/

namespace Sys2Proof.Machine

/-- One clock cycle: the agent whose turn it is takes its step on the values held in the cycle, and
the clock edge follows. An illegal `op` raises `IllegalCommand` (`60_exceptions.md` R162). -/
def step (s : State) : Host.Outcome State Fault Refusal :=
  match s.turn with
  | .reset => .next s.takeReset
  | .none => .next (s.endCycle s.beginCycle)
  | .handler => s.finish (exec .update s.beginCycle)
  | .foreground =>
    match s.fetch with
    | .ok i => s.finish (exec i s.beginCycle)
    | .error _ => .next (s.endCycle (s.beginCycle.raiseFault .illegalCommand))

/-- `s` with the operation whose opcode-table bits are `w` placed where the next step fetches it:
a command in `CMDREG`, accepted and not yet begun; the event in `SCAN_PEND` (log 4). -/
def State.withFetchWord (s : State) (nbits w : Nat) : State :=
  s.withCode (tableCode nbits w)

end Sys2Proof.Machine
end

