-- ==== Sys2Proof/Safety.lean ====
section
/-! DEFINITION. The vocabulary of claims about the block: runs, the inputs of later cycles, the
invariants of a state, and the timing of a frame in closed form. -/

namespace Sys2Proof.Machine

/-! ## Runs -/

/-- `k` clock cycles, stopping at the first stop. -/
def runFor : Nat → State → Host.Outcome State Fault Refusal
  | 0, s => .next s
  | k + 1, s =>
    match step s with
    | .next t => runFor k t
    | .fault r => .fault r
    | .refused r => .refused r

/-- `k` steps of one operation, nothing else stepping between them. -/
def execFor (i : Instr) : Nat → State → Host.Outcome State Fault Refusal
  | 0, s => .next s
  | k + 1, s =>
    match exec i s with
    | .next t => execFor i k t
    | .fault r => .fault r
    | .refused r => .refused r

/-- The inputs of the `j`-th coming cycle, the present one being the 0-th. -/
def State.inpAt (s : State) (j : Nat) : Inputs := (s.tape.drop j).headD {}

/-- `rst = 0` in the next `k` cycles. -/
abbrev State.NoReset (s : State) (k : Nat) : Prop := ∀ j < k, (s.inpAt j).rst = false

/-- The schedule starts no update in the next `k` cycles (`60_exceptions.md` R169). -/
abbrev State.NoUpdate (s : State) (k : Nat) : Prop := ∀ j < k, (s.inpAt j).updGo = false

/-! ## The filter's invariant (`42_acquisition_filter.md` R148, R151) -/

/-- The sum of a ring's 32 slots. -/
def ringSum (r : Vector Sample 32) : Nat := (r.toList.map BitVec.toNat).sum

/-- `s32(ACC[c])` is the sum of the slots of `RING[c]`, for every channel (R148). -/
abbrev State.SumHolds (s : State) : Prop := ∀ c : Fin 5, s.acc[c].toInt = (ringSum s.ring[c] : Int)

/-- `u(FILT[c]) = s32(ACC[c]) div 32`, for every channel (R151). -/
abbrev State.OutHolds (s : State) : Prop := ∀ c : Fin 5, (s.filt[c].toNat : Int) = s.acc[c].toInt / 32

/-- The filter's invariant. -/
abbrev State.FilterInv (s : State) : Prop := s.SumHolds ∧ s.OutHolds

/-! ## The control registers' invariant -/

/-- `SEQ` is a state the command in `CMDREG` passes through (`60_exceptions.md` R180). -/
def seqFits (q : Seq) (op : Opcode) : Bool :=
  match q with
  | .idle => true
  | .exec => decide (startSeq op = .exec)
  | .slpWait => decide (startSeq op = .slpWait)
  | .txEnter => decide (startSeq op = .txEnter)
  | .txHigh => decide (startSeq op = .txEnter)
  | .txLow => decide (startSeq op = .txEnter)
  | .txGap => decide (startSeq op = .txEnter)

/-- The sequencer is inside the 24 bit periods. -/
def State.inFrame (s : State) : Bool := decide (s.seq = .txHigh) || decide (s.seq = .txLow)

/-- No wait has begun before the first `RISE` of a frame: `IDLE`, `EXEC`, `TX_ENTER`, and `TX_HIGH`
with the line still low (`41_color_transmitter.md` R137). -/
def State.beforeWait (s : State) : Bool :=
  decide (s.seq = .idle) || decide (s.seq = .exec) || decide (s.seq = .txEnter) ||
    (decide (s.seq = .txHigh) && !s.line)

/-- `WAITING` and `OVHC` are 0 before a wait has begun, `SLEEP` uses `WAITING` only, and `OVHC` counts
down from `OVH - 1` (`10_state.md` R53). -/
abbrev State.WaitRegs (s : State) : Prop :=
  (s.beforeWait = true → s.waiting = false ∧ s.ovhc = 0) ∧ (s.seq = .slpWait → s.ovhc = 0) ∧
  (s.ovhc = 0 ∨ s.ovhc.toNat < s.cfg.ovh.toNat)

/-- The line is low whenever `SEQ` is not `TX_HIGH` (`41_color_transmitter.md` R131), the mask is 1
exactly inside the bit periods (R125), and no update is active while it is (`20_memory.md` R71). -/
abbrev State.LineAndMask (s : State) : Prop :=
  (s.line = true → s.seq = .txHigh) ∧ s.irqMask = s.inFrame ∧ (s.irqMask = true → s.updActive = false)

/-- `UPD_CH` is 0 to 5 during an update and 0 outside one (`10_state.md` R43); nothing is pending or
active before `ACQINIT` has armed the interrupt (`60_exceptions.md` R167, R169). -/
abbrev State.UpdateRegs (s : State) : Prop :=
  (s.updActive = true → s.updCh.toNat ≤ 5) ∧ (s.updActive = false → s.updCh = 0) ∧
  (s.scanPend = true ∨ s.updActive = true → s.irqArmed = true)

/-- `BITCNT` is 1 to 24 inside the bit periods and 0 outside them, and `SHIFT` holds no more than
the `BITCNT` bits still to send (`10_state.md` R30, R31; `41_color_transmitter.md` R131). -/
abbrev State.FrameRegs (s : State) : Prop :=
  s.bitcnt.toNat ≤ 24 ∧ (s.inFrame = true ↔ s.bitcnt ≠ 0) ∧ s.shift <<< s.bitcnt.toNat = 0

/-- The control registers agree with one another, as they do in every state a run reaches. -/
abbrev State.Coherent (s : State) : Prop :=
  seqFits s.seq (opField s.cmdreg) = true ∧ s.WaitRegs ∧ s.LineAndMask ∧ s.UpdateRegs ∧ s.FrameRegs

/-! ## The timing of a frame (`41_color_transmitter.md` R126 to R130) -/

/-- The colour of the frame the command in `CMDREG` sends, if it is `TX` or `TXIDX`. -/
def State.frameColor (s : State) : Option Color :=
  match s.fetch with
  | .ok (.tx color) => some color
  | .ok (.txidx idx) => some s.cfg.palette[paletteSlot idx]
  | _ => none

/-- `b(j)`, the bit of bit period `j`: most significant first (R126, R129). -/
def frameBit (color : Color) (j : Nat) : Bool := color.getLsbD (23 - j)

/-- `H(j)`: the realised length of the high phase of a bit of value `b` (R127, R129). -/
def State.highLen (s : State) (b : Bool) : Nat := phaseLen s.cfg.toParams (s.highEntry b)

/-- `L(j)`: the realised length of the low phase of a bit of value `b` (R127, R129). -/
def State.lowLen (s : State) (b : Bool) : Nat := phaseLen s.cfg.toParams (s.lowEntry b)

/-- `r(j) - r(0)`: where bit period `j` rises (R129). -/
def State.riseAt (s : State) (color : Color) : Nat → Nat
  | 0 => 0
  | j + 1 => s.riseAt color j + (s.highLen (frameBit color j) + s.lowLen (frameBit color j))

/-- `S`, the sum of the 48 phase lengths (R129). -/
def State.frameLen (s : State) (color : Color) : Nat := s.riseAt color 24

/-- `DRST` (R127). -/
def State.gapLen (s : State) : Nat := phaseLen s.cfg.toParams s.trst

/-- The level of `line_out` in the cycle `r(0) + o`: 1 exactly in cycles `r(j) + 1` to `f(j)` (R129). -/
def State.lineAt (s : State) (color : Color) (o : Nat) : Bool :=
  (List.range 24).any fun j =>
    decide (s.riseAt color j < o) && decide (o ≤ s.riseAt color j + s.highLen (frameBit color j))

/-- Every phase of a bit period has a length (R127). -/
abbrev State.PhasesNonzero (s : State) : Prop := ∀ b : Bool, 1 ≤ s.highLen b ∧ 1 ≤ s.lowLen b

/-! ## Updates in sequence (`42_acquisition_filter.md` R149) -/

/-- For each pass: `ENV` has written the five samples and raised the event, and one whole update
(seven steps, R142) runs. -/
def runPasses : List (Vector Sample 5) → State → Host.Outcome State Fault Refusal
  | [], s => .next s
  | x :: xs, s =>
    match execFor .update 7 { s with raw := x, scanPend := true } with
    | .next t => runPasses xs t
    | .fault r => .fault r
    | .refused r => .refused r

end Sys2Proof.Machine
end

