-- ==== Sys2Proof/Certificates/Slice0/Obligations.lean ====
section
/-! DEFINITION. The statements for the provers. Every statement holds for every value of the
parameters (`State.cfg`), of the inputs of every cycle (`State.tape`) and of the free values, unless
it says otherwise. -/

open Sys2Proof Sys2Proof.Machine

/-! ## Encoding -/

/-- Decoding the code of any operation gives it back (R82, R83, R84). -/
def Obligations.DecodeOfEncode : Prop :=
  ∀ i : Instr, i.wellFormed = true → decode (encode i) = .ok i

/-- A word that decodes is the code of its operation in every bit the block reads; the other bits
are ignored (R83). -/
def Obligations.EncodeOfDecode : Prop :=
  (∀ (w : CmdWord) (i : Instr), decode (.cmd w) = .ok i → encode i = .cmd (w &&& readBits (opField w))) ∧
  (∀ (e : BitVec 1) (i : Instr), decode (.evt e) = .ok i → encode i = .evt e)

/-- A word is rejected exactly when its `op` is none of the ten legal ones, which leaves 246 values
(R84, R85). -/
def Obligations.IllegalOpcodesRejected : Prop :=
  (∀ w : CmdWord, decode (.cmd w) = .error (.illegalCommand (opField w)) ↔ opField w ∉ legalOpcodes) ∧
  (∀ w : CmdWord, opField w ∈ legalOpcodes → ∃ i, decode (.cmd w) = .ok i) ∧
  ((List.range 256).filter fun n => decide (BitVec.ofNat 8 n ∉ legalOpcodes)).length = 246

/-- Words written out from the encoding tables decode to the operation they stand for
(R80, R82, R84; vectors V1 to V7 of `95_test_vectors.md`). -/
def Obligations.SampleWordsDecode : Prop :=
  decode (.cmd 0x01DEADBEEF#40) = .ok .cten ∧
  decode (.cmd 0x02000000FA#40) = .ok (.goalc 250#32) ∧
  decode (.cmd 0x0912345678#40) = .ok (.tx 0x345678#24) ∧
  decode (.cmd 0x0AFFFFFFF9#40) = .ok (.txidx 1#3) ∧
  decode (.cmd 0x1100000002#40) = .ok (.acqrd 2#32) ∧
  decode (.evt 1#1) = .ok .update ∧
  decode (.cmd 0x0B00000001#40) = .error (.illegalCommand 0x0B#8)

/-- The word of an assembler line is `{op, arg}` with the operand placed in `arg` unchanged, and a
command without an operand assembles with `arg = 0` (R88). -/
def Obligations.AssembledWordHoldsOpcodeAndOperand : Prop :=
  (∀ (mn : Mnemonic) (v : Nat), mn.hasOperand = true → v < 2 ^ 32 →
    ∃ w, assemble { mn := mn, operand := some v } = some w ∧
      opField w = mn.opcode ∧ (argField w).toNat = v ∧ w.toNat = mn.opcode.toNat * 2 ^ 32 + v) ∧
  (∀ mn : Mnemonic, mn.hasOperand = false →
    ∃ w, assemble { mn := mn, operand := none } = some w ∧ w.toNat = mn.opcode.toNat * 2 ^ 32)

/-! ## One clock cycle -/

/-- In a cycle in which the foreground runs and a command is in execution, the step is that command's
step on the held state with the output pulses of the cycle before ended, followed by the clock edge. -/
def Obligations.StepRunsCommandInExecution : Prop :=
  ∀ (s : State) (i : Instr), s.inp.rst = false → s.foregroundRuns = true → s.seq ≠ .idle →
    decode (.cmd s.cmdreg) = .ok i → i.wellFormed = true →
    (∀ t, exec i { s with resp := none, scanAck := false } = .next t → step s = .next (s.endCycle t)) ∧
    (∀ r, exec i { s with resp := none, scanAck := false } = .fault r → step s = .fault r) ∧
    (∀ r, exec i { s with resp := none, scanAck := false } = .refused r → step s = .refused r)

/-- In a cycle in which an update starts or an active one goes on, the step is `UPDATE`'s step,
followed by the clock edge (R142, R169, R171). -/
def Obligations.StepRunsUpdate : Prop :=
  ∀ s : State, s.inp.rst = false → s.inp.updGo = true →
    s.updActive = true ∨ (s.scanPend = true ∧ s.irqArmed = true ∧ s.irqMask = false ∧ s.updActive = false) →
    (∀ t, exec .update { s with resp := none, scanAck := false } = .next t → step s = .next (s.endCycle t)) ∧
    (∀ r, exec .update { s with resp := none, scanAck := false } = .fault r → step s = .fault r)

/-- An operation placed by `withFetchWord` is the one the very next step runs. -/
def Obligations.PlacedWordIsRunNext : Prop :=
  (∀ (s : State) (w : Nat) (i : Instr), decodeTableWord 40 w = some i →
    (s.withFetchWord 40 w).turn = .foreground ∧ (s.withFetchWord 40 w).fetch = .ok i) ∧
  (∀ (s : State) (w : Nat) (i : Instr), decodeTableWord 8 w = some i →
    i = .update ∧ (s.withFetchWord 8 w).turn = .handler ∧ (s.withFetchWord 8 w).eligible = true)

/-- A command with an illegal `op` responds in its one step with code 1 and unspecified data, and
writes no register but `SEQ` besides what the clock edge writes (R160, R161, R162). `freeCtr`, which
counts the draw of the unspecified data, is the MODEL'S own: log 7. -/
def Obligations.IllegalCommandRaisesFault : Prop :=
  ∀ s : State, s.inp.rst = false → s.foregroundRuns = true → s.seq ≠ .idle →
    opField s.cmdreg ∉ legalOpcodes →
    ∃ d : Word, step s = .next (s.endCycle
      { s with resp := some { err := 1, data := d }, seq := .idle, scanAck := false, freeCtr := s.freeCtr + 1 })

/-- While `rst = 1` at a clock edge every register takes its reset value, whatever the block was
doing; the parameters stay (R20, R47, R190, R191). -/
def Obligations.ResetTakesResetValues : Prop :=
  ∀ s : State, s.inp.rst = true → ∃ t, step s = .next t ∧
    t.cnt = 0 ∧ t.cntEn = false ∧ t.fHz = 0 ∧
    t.t0h = 0 ∧ t.t0l = 0 ∧ t.t1h = 0 ∧ t.t1l = 0 ∧ t.trst = 0 ∧
    t.goal = 0 ∧ t.shift = 0 ∧ t.bitcnt = 0 ∧ t.line = false ∧ t.irqMask = false ∧ t.seq = .idle ∧
    (∀ (c : Fin 5) (k : Fin 32), t.memRead (.ring c k) = 0) ∧
    (∀ c : Fin 5, t.memRead (.acc c) = 0 ∧ t.memRead (.filt c) = 0) ∧
    t.cursor = 0 ∧ t.scanPend = false ∧ t.irqArmed = false ∧ t.updActive = false ∧ t.updCh = 0 ∧
    t.cmdreg = 0 ∧ t.waiting = false ∧ t.ovhc = 0 ∧
    t.cmdReady = true ∧ t.resp = none ∧ t.scanAck = false ∧ t.cfg = s.cfg

/-- The tick (R100): outside reset `CNT` is incremented exactly when `CNT_EN = 1`, and over any number
of cycles with `CNT_EN = 1` throughout it advances by as many, modulo `2^32`. -/
def Obligations.CounterTicksEveryCycle : Prop :=
  (∀ s t : State, s.inp.rst = false → step s = .next t →
    t.cnt = if s.cntEn then s.cnt + 1 else s.cnt) ∧
  (∀ (k : Nat) (s t : State), s.NoReset k → s.cntEn = true → runFor k s = .next t →
    t.cnt = s.cnt + BitVec.ofNat 32 k ∧ t.cntEn = true)

/-- A command is accepted in a cycle with `cmd_valid = 1` and `cmd_ready = 1` and in no other: it is
latched, and `SEQ` leaves `IDLE` for the first state of the command (R21, R50, R180). -/
def Obligations.AcceptanceLatchesCommand : Prop :=
  ∀ s t : State, s.inp.rst = false → step s = .next t →
    ((s.inp.cmdValid = true ∧ s.seq = .idle ∧ s.updActive = false) →
      t.cmdreg = s.inp.cmdWord ∧
      (opField s.inp.cmdWord = 0x05#8 → t.seq = .slpWait) ∧
      (opField s.inp.cmdWord = 0x09#8 ∨ opField s.inp.cmdWord = 0x0A#8 → t.seq = .txEnter) ∧
      (opField s.inp.cmdWord ∉ [0x05#8, 0x09#8, 0x0A#8] → t.seq = .exec)) ∧
    (¬ (s.inp.cmdValid = true ∧ s.seq = .idle ∧ s.updActive = false) →
      t.cmdreg = s.cmdreg ∧ (s.seq = .idle → t.seq = .idle))

/-- `RAW` is written by the raw write port alone, one word, in every cycle with `raw_we = 1` and a
channel below 5 (R24, R36, R60). -/
def Obligations.RawWrittenOnlyByItsPort : Prop :=
  ∀ s t : State, s.inp.rst = false → step s = .next t →
    ∀ c : Fin 5, t.memRead (.raw c) =
      if s.inp.rawWe = true ∧ s.inp.rawCh.toNat = c.val then s.inp.rawData.setWidth 32 else s.memRead (.raw c)

/-- `SCAN_PEND` after a cycle (R167): set by a `scan_done` pulse while `IRQ_ARMED = 1`; else cleared
by the start step of an update and by the step of `ACQINIT`; else held. The set wins. -/
def Obligations.ScanEventBecomesPending : Prop :=
  ∀ s t : State, s.inp.rst = false → step s = .next t →
    t.scanPend =
      if s.inp.scanDone = true ∧ s.irqArmed = true then true
      else if s.updStarts = true then false
      else if s.turn = .foreground ∧ s.fetch = .ok .acqinit then false
      else s.scanPend

/-- While the foreground does not run it is frozen and gives no response; `SEQ` and `CMDREG` move only
by an acceptance, which can fall in the start cycle of an update (R170). -/
def Obligations.ForegroundFrozenDuringUpdate : Prop :=
  ∀ s t : State, s.inp.rst = false → s.foregroundRuns = false → step s = .next t →
    t.goal = s.goal ∧ t.shift = s.shift ∧ t.bitcnt = s.bitcnt ∧ t.line = s.line ∧ t.irqMask = s.irqMask ∧
    t.waiting = s.waiting ∧ t.ovhc = s.ovhc ∧ t.fHz = s.fHz ∧
    t.t0h = s.t0h ∧ t.t0l = s.t0l ∧ t.t1h = s.t1h ∧ t.t1l = s.t1l ∧ t.trst = s.trst ∧
    t.resp = none ∧
    (s.accepts = false → t.seq = s.seq ∧ t.cmdreg = s.cmdreg) ∧
    (s.accepts = true → s.updActive = false)

/-! ## Rules of the whole machine -/

/-- No step, reset included, changes a parameter (R46, R35). That the parameters are ones the spec
admits is in their type (R6, R133). -/
def Obligations.ParametersNeverChange : Prop :=
  ∀ s t : State, step s = .next t → t.cfg = s.cfg

/-- Nothing but reset clears `CNT_EN` or `IRQ_ARMED`; `CTEN` alone sets the one and `ACQINIT` alone
the other (R26, R42, R52, R166). -/
def Obligations.ArmBitsOnlySet : Prop :=
  ∀ s t : State, s.inp.rst = false → step s = .next t →
    t.cntEn = (s.cntEn || decide (s.turn = .foreground ∧ s.fetch = .ok .cten)) ∧
    t.irqArmed = (s.irqArmed || decide (s.turn = .foreground ∧ s.fetch = .ok .acqinit))

/-- No command other than `TXINIT` writes the table or `F_HZ` (R122, R27, R28). -/
def Obligations.TableWrittenOnlyByTxinit : Prop :=
  ∀ s t : State, s.inp.rst = false → step s = .next t →
    ¬ (s.turn = .foreground ∧ ∃ f, s.fetch = .ok (.txinit f)) →
    t.fHz = s.fHz ∧ t.t0h = s.t0h ∧ t.t0l = s.t0l ∧ t.t1h = s.t1h ∧ t.t1l = s.t1l ∧ t.trst = s.trst

/-- Nothing but a step of `TX` or `TXIDX` writes the line, the mask, `SHIFT`, `BITCNT` or `OVHC`
(R30, R31, R32, R33, R168). -/
def Obligations.FrameRegistersWrittenOnlyByFrames : Prop :=
  ∀ s t : State, s.inp.rst = false → step s = .next t →
    ¬ (s.turn = .foreground ∧ ∃ color, s.frameColor = some color) →
    t.line = s.line ∧ t.irqMask = s.irqMask ∧ t.shift = s.shift ∧ t.bitcnt = s.bitcnt ∧ t.ovhc = s.ovhc

/-- The memory frame of the whole machine (R60): a cycle that is neither `UPDATE`'s nor `ACQINIT`'s
leaves `RING`, `ACC`, `FILT` and the cursor as they were, and no cycle changes `PALETTE`. -/
def Obligations.FilterWrittenOnlyByUpdateAndAcqinit : Prop :=
  ∀ s t : State, s.inp.rst = false → step s = .next t →
    (s.turn ≠ .handler → ¬ (s.turn = .foreground ∧ s.fetch = .ok .acqinit) →
      t.cursor = s.cursor ∧ (∀ c k, t.memRead (.ring c k) = s.memRead (.ring c k)) ∧
      (∀ c, t.memRead (.acc c) = s.memRead (.acc c) ∧ t.memRead (.filt c) = s.memRead (.filt c))) ∧
    (∀ i, t.memRead (.palette i) = s.memRead (.palette i))

/-- The foreground has no access to the Raw Sample Buffer (R60, R176): what stands in `RAW` changes
nothing but `RAW` in a cycle that is not the handler's. -/
def Obligations.ForegroundCannotReadRaw : Prop :=
  ∀ (s : State) (raw' : Vector Sample 5), s.turn ≠ .handler →
    (∀ t, step s = .next t → ∃ raw'', step { s with raw := raw' } = .next { t with raw := raw'' }) ∧
    (∀ r, step s = .fault r → step { s with raw := raw' } = .fault r)

/-- The critical section defers an update and does not drop it (R125, R167, R168, R169): while the mask
is 1 no update starts, and a pending event stays pending. -/
def Obligations.MaskDefersUpdates : Prop :=
  ∀ s t : State, s.Coherent → s.inp.rst = false → s.irqMask = true → step s = .next t →
    t.updActive = false ∧ t.scanAck = false ∧ (s.scanPend = true → t.scanPend = true)

/-! ## The Cycle Timer -/

/-- `CTEN` (R101): sets `CNT_EN`, responds 0, and changes nothing else. -/
def Obligations.CtenArmsCounter : Prop :=
  ∀ s : State, exec .cten s =
    .next { s with cntEn := true, resp := some { err := 0, data := 0 }, seq := .idle }

/-- `GOALC n` (R102): responds `CNT +32 n` and changes nothing else. -/
def Obligations.GoalcRespondsSum : Prop :=
  ∀ (s : State) (n : Word), ∃ v : Word, v.toNat = (s.cnt.toNat + n.toNat) % 2 ^ 32 ∧
    exec (.goalc n) s = .next { s with resp := some { err := 0, data := v }, seq := .idle }

/-- `GOALMS ms` (R103, R104): responds `CNT +32 trunc_32((u(ms) * u(F_HZ)) div 1000)` and changes
nothing else. -/
def Obligations.GoalmsRespondsScaledSum : Prop :=
  ∀ (s : State) (ms : Word), ∃ v : Word,
    v.toNat = (s.cnt.toNat + ms.toNat * s.fHz.toNat / 1000) % 2 ^ 32 ∧
    exec (.goalms ms) s = .next { s with resp := some { err := 0, data := v }, seq := .idle }

/-- `REACHED goal` (R105): responds 1 iff `s32(CNT -32 goal) >= 0`, equivalently iff
`u(CNT -32 goal) < 2^31`, else 0, and changes nothing else. -/
def Obligations.ReachedIsSignedComparison : Prop :=
  ∀ (s : State) (goal : Word), ∃ v : Word,
    (v = if 0 ≤ (s.cnt - goal).toInt then 1 else 0) ∧ (v = if (s.cnt - goal).toNat < 2 ^ 31 then 1 else 0) ∧
    exec (.reached goal) s = .next { s with resp := some { err := 0, data := v }, seq := .idle }

/-- The reach window (R106): `e` ticks after the goal `g = c0 +32 n` was taken, `REACHED g` answers 1 iff
`(e - u(n)) mod 2^32 < 2^31`, else 0; for `u(n) <= 2^31` that is 0 for `e < u(n)`, 1 for the `2^31` ticks
from `u(n)` on and 0 for the next `2^31`, and for `u(n) > 2^31` it is 1 from `e = 0`. -/
def Obligations.ReachWindow : Prop :=
  ∀ (s : State) (c0 n : Word) (e : Nat), s.cnt = c0 + BitVec.ofNat 32 e →
    ∃ v : Word, exec (.reached (c0 + n)) s = .next { s with resp := some { err := 0, data := v }, seq := .idle } ∧
      (v = if ((e : Int) - n.toNat) % 2 ^ 32 < 2 ^ 31 then 1 else 0) ∧
      (n.toNat ≤ 2 ^ 31 → e < n.toNat → v = 0) ∧
      (n.toNat ≤ 2 ^ 31 → n.toNat ≤ e → e < n.toNat + 2 ^ 31 → v = 1) ∧
      (n.toNat ≤ 2 ^ 31 → n.toNat + 2 ^ 31 ≤ e → e < n.toNat + 2 ^ 32 → v = 0) ∧
      (2 ^ 31 < n.toNat → e + 2 ^ 31 < n.toNat → v = 1)

/-- One cycle of `SLEEP n` (R107, R108, R137). The first writes the goal and responds at once exactly when
`eff(n) = 0`; a later one responds exactly when the goal is reached; nothing else changes. -/
def Obligations.SleepStepsItsWait : Prop :=
  ∀ (s : State) (n : Word),
    (s.waiting = false → exec (.sleep n) s = .next
      (if eff n = 0 then
        { s with goal := s.cnt + n, waiting := false, resp := some { err := 0, data := 0 }, seq := .idle }
      else { s with goal := s.cnt + n, waiting := true })) ∧
    (s.waiting = true → exec (.sleep n) s = .next
      (if (s.cnt - s.goal).toNat < 2 ^ 31 then
        { s with waiting := false, resp := some { err := 0, data := 0 }, seq := .idle }
      else s))

/-- `SLEEP n` from its first cycle on, no update intervening (R107, R108): it does not respond in the
first `eff(n)` cycles and responds 0 in the next. Cycles with an update between them are left out here:
`SleepStepsItsWait` gives the wait one cycle at a time, whatever comes between. -/
def Obligations.SleepLastsEffCycles : Prop :=
  ∀ (s : State) (n : Word), s.seq = .slpWait → s.fetch = .ok (.sleep n) → s.waiting = false →
    s.cntEn = true → s.updActive = false → s.NoReset (eff n + 1) → s.NoUpdate (eff n + 1) →
    (∀ k, 1 ≤ k → k ≤ eff n → ∃ t, runFor k s = .next t ∧ t.resp = none ∧ t.seq = .slpWait ∧ t.goal = s.cnt + n) ∧
    ∃ t, runFor (eff n + 1) s = .next t ∧ t.resp = some { err := 0, data := 0 } ∧ t.seq = .idle ∧
      t.waiting = false ∧ t.goal = s.cnt + n

/-- A wait with the counter stopped never ends (R109): no response ever, the line and the mask stay
as they are, and the command goes on waiting, whatever the environment does. -/
def Obligations.WaitWithStoppedCounterHangs : Prop :=
  ∀ s : State, s.Coherent → s.cntEn = false → s.waiting = true → reachedAt s.cnt s.goal = false →
    ∀ k, s.NoReset (k + 1) → ∃ t, runFor (k + 1) s = .next t ∧
      t.seq = s.seq ∧ t.waiting = true ∧ t.goal = s.goal ∧ t.cnt = s.cnt ∧
      t.line = s.line ∧ t.irqMask = s.irqMask ∧ t.resp = none ∧ t.cmdReady = false

/-! ## The transmitter -/

/-- `TXINIT f` (R120, R121): `F_HZ` and the five entries, modulo `2^32`, responds 0, and changes
nothing else. -/
def Obligations.TxinitWritesTable : Prop :=
  ∀ (s : State) (f : Word), ∃ a b c d e : Word,
    (∀ p ∈ [(a, s.cfg.nomT0h), (b, s.cfg.nomT0l), (c, s.cfg.nomT1h), (d, s.cfg.nomT1l), (e, s.cfg.nomTrst)],
      ((p.1.toNat : Int) - ((p.2 * f.toNat / 1000000000 : Nat) - (s.cfg.ovh.toNat : Int))) % 2 ^ 32 = 0) ∧
    exec (.txinit f) s = .next { s with
      fHz := f, t0h := a, t0l := b, t1h := c, t1l := d, trst := e
      resp := some { err := 0, data := 0 }, seq := .idle }

/-- The realised length of a phase begun with an entry `TXINIT` computed is `max(cyc_ns(d, f), OVH)`
cycles, wrapped entries included (R136), for every duration up to half a second. -/
def Obligations.RealisedLengthIsNominalOrOverhead : Prop :=
  ∀ (p : Params) (d : Nat) (f : Word), d ≤ 500000000 →
    phaseLen p (tableEntry p d f) = max (d * f.toNat / 1000000000) p.ovh.toNat

/-- `TXIDX idx` is `TX` of the palette's colour, in every cycle of the frame (R89, R132). -/
def Obligations.TxidxIsTxOfPaletteColor : Prop :=
  ∀ (s : State) (idx : BitVec 3), exec (.txidx idx) s = exec (.tx s.cfg.palette[paletteSlot idx]) s

/-- The frame of `TX` and `TXIDX` (R124, R137), whatever the table: in every state of the transmitter the
step answers a next state that differs in the sequencer's own registers and the response alone, and
the response, if one is given, is 0 and returns `SEQ` to `IDLE`. MODEL'S CHOICE: that the step completes
with phases of length 0, where R127 and R137 let a model refuse (log 8), and with a `BITCNT` out of
its range, where no run arrives (log 20). -/
def Obligations.FrameTouchesOnlyItsRegisters : Prop :=
  ∀ (s : State) (i : Instr), ((∃ color, i = .tx color) ∨ ∃ idx, i = .txidx idx) →
    s.seq = .txEnter ∨ s.seq = .txHigh ∨ s.seq = .txLow ∨ s.seq = .txGap →
    ∃ t, exec i s = .next t ∧
      t = { s with
        goal := t.goal, shift := t.shift, bitcnt := t.bitcnt, line := t.line, irqMask := t.irqMask
        seq := t.seq, waiting := t.waiting, ovhc := t.ovhc, resp := t.resp } ∧
      (t.resp = s.resp ∨ (t.resp = some { err := 0, data := 0 } ∧ t.seq = .idle))

/-- `ENTER` (R124, R137): the mask is set, the colour loaded, and nothing else changes but the
sequencer's own registers. -/
def Obligations.FrameEnters : Prop :=
  ∀ s : State, s.seq = .txEnter →
    (∀ color : Color, exec (.tx color) s = .next
      { s with irqMask := true, shift := color, bitcnt := 24, seq := .txHigh, waiting := false, ovhc := 0 }) ∧
    (∀ idx : BitVec 3, exec (.txidx idx) s = .next
      { s with irqMask := true, shift := s.cfg.palette[paletteSlot idx], bitcnt := 24, seq := .txHigh,
               waiting := false, ovhc := 0 })

/-- `RISE` of the first bit (R124, R126, R137), for a table whose high phase has a length: the line
goes high and the wait for the high entry of `SHIFT[23]` begins; nothing else changes. -/
def Obligations.FrameRises : Prop :=
  ∀ (s : State) (i : Instr), ((∃ color, i = .tx color) ∨ ∃ idx, i = .txidx idx) →
    s.seq = .txHigh → s.line = false → 1 ≤ s.highLen s.sendBit →
    exec i s = .next { s with
      line := true
      goal := s.cnt + s.highEntry s.sendBit
      waiting := decide (eff (s.highEntry s.sendBit) ≠ 0)
      ovhc := if eff (s.highEntry s.sendBit) = 0 then s.cfg.ovh - 1 else s.ovhc }

/-- A wait of a frame that is not over (R137): one cycle of it changes nothing but `WAITING` and
`OVHC`. A frame's wait is over when the comparison holds and `OVH = 0`, or when `OVHC` has run out. -/
def Obligations.FrameWaits : Prop :=
  ∀ (s : State) (i : Instr), ((∃ color, i = .tx color) ∨ ∃ idx, i = .txidx idx) →
    (s.seq = .txHigh ∧ s.line = true) ∨ s.seq = .txLow ∨ s.seq = .txGap →
    ¬ ((s.waiting = true ∧ reachedAt s.cnt s.goal = true ∧ s.cfg.ovh = 0) ∨ (s.waiting = false ∧ s.ovhc = 0)) →
    exec i s = .next { s with
      waiting := s.waiting && !reachedAt s.cnt s.goal
      ovhc := if s.waiting then (if reachedAt s.cnt s.goal then s.cfg.ovh - 1 else s.ovhc) else s.ovhc - 1 }

/-- `FALL` (R124, R126, R137), for a table whose low phase has a length: the line goes low and the wait
for the low entry of `SHIFT[23]` begins; nothing else changes. -/
def Obligations.FrameFalls : Prop :=
  ∀ (s : State) (i : Instr), ((∃ color, i = .tx color) ∨ ∃ idx, i = .txidx idx) →
    s.seq = .txHigh → s.line = true →
    (s.waiting = true ∧ reachedAt s.cnt s.goal = true ∧ s.cfg.ovh = 0) ∨ (s.waiting = false ∧ s.ovhc = 0) →
    1 ≤ s.lowLen s.sendBit →
    exec i s = .next { s with
      line := false
      seq := .txLow
      goal := s.cnt + s.lowEntry s.sendBit
      waiting := decide (eff (s.lowEntry s.sendBit) ≠ 0)
      ovhc := if eff (s.lowEntry s.sendBit) = 0 then s.cfg.ovh - 1 else s.ovhc }

/-- `NEXT` with bits remaining (R124, R137), for a table whose high phases have a length: the colour is
shifted, the count falls, and the next bit, the old `SHIFT[22]`, rises in the same cycle. -/
def Obligations.FrameGoesToNextBit : Prop :=
  ∀ (s : State) (i : Instr), ((∃ color, i = .tx color) ∨ ∃ idx, i = .txidx idx) →
    s.seq = .txLow → s.bitcnt ≠ 1 →
    (s.waiting = true ∧ reachedAt s.cnt s.goal = true ∧ s.cfg.ovh = 0) ∨ (s.waiting = false ∧ s.ovhc = 0) →
    1 ≤ s.highLen (s.shift.getLsbD 22) →
    exec i s = .next { s with
      shift := s.shift <<< 1
      bitcnt := s.bitcnt - 1
      line := true
      seq := .txHigh
      goal := s.cnt + s.highEntry (s.shift.getLsbD 22)
      waiting := decide (eff (s.highEntry (s.shift.getLsbD 22)) ≠ 0)
      ovhc := if eff (s.highEntry (s.shift.getLsbD 22)) = 0 then s.cfg.ovh - 1 else s.ovhc }

/-- `NEXT` of the 24th bit is `EXIT` (R124, R137), for a latch gap that has a length: the mask is
cleared and the wait for `TRST` begins. -/
def Obligations.FrameExits : Prop :=
  ∀ (s : State) (i : Instr), ((∃ color, i = .tx color) ∨ ∃ idx, i = .txidx idx) →
    s.seq = .txLow → s.bitcnt = 1 →
    (s.waiting = true ∧ reachedAt s.cnt s.goal = true ∧ s.cfg.ovh = 0) ∨ (s.waiting = false ∧ s.ovhc = 0) →
    1 ≤ s.gapLen →
    exec i s = .next { s with
      shift := s.shift <<< 1
      bitcnt := 0
      irqMask := false
      seq := .txGap
      goal := s.cnt + s.trst
      waiting := decide (eff s.trst ≠ 0)
      ovhc := if eff s.trst = 0 then s.cfg.ovh - 1 else s.ovhc }

/-- `DONE` (R124, R137): responds 0, `SEQ <- IDLE`, both wait registers 0. -/
def Obligations.FrameResponds : Prop :=
  ∀ (s : State) (i : Instr), ((∃ color, i = .tx color) ∨ ∃ idx, i = .txidx idx) →
    s.seq = .txGap →
    (s.waiting = true ∧ reachedAt s.cnt s.goal = true ∧ s.cfg.ovh = 0) ∨ (s.waiting = false ∧ s.ovhc = 0) →
    exec i s = .next { s with
      resp := some { err := 0, data := 0 }, seq := .idle, waiting := false, ovhc := 0 }

/-- Where no phase has a length, the whole frame falls into the cycle of its first `RISE`: the later
write of the line wins, so the line never rises, and the command responds (R127, R193). MODEL'S CHOICE
where the spec lets a model refuse such a table: log 8. -/
def Obligations.FrameWithoutLengthIsOneCycle : Prop :=
  ∀ (s : State) (i : Instr), ((∃ color, i = .tx color) ∨ ∃ idx, i = .txidx idx) →
    s.seq = .txHigh → s.line = false → s.bitcnt = 24 →
    (∀ b, s.highLen b = 0 ∧ s.lowLen b = 0) → s.gapLen = 0 →
    exec i s = .next { s with
      shift := 0, bitcnt := 0, line := false, irqMask := false, seq := .idle, goal := s.cnt + s.trst
      waiting := false, ovhc := 0, resp := some { err := 0, data := 0 } }

/-- The waveform of a frame (R125, R127, R129): from the cycle of `ENTER` on, for every colour, table
and environment without reset, the mask is 1 in the `1 + S` cycles that follow, `line_out` in each of
them is the closed form, no update is active in them, and then the mask and the line are 0 and the
colour is used up. Where the latch gap has length 0 the last clause rests on the MODEL'S CHOICE of
log 8, by which `EXIT` and the response then share that cycle. -/
def Obligations.FrameWaveformIsExact : Prop :=
  ∀ (s : State) (color : Color), s.seq = .txEnter → s.frameColor = some color → s.foregroundRuns = true →
    s.line = false → s.cntEn = true → s.PhasesNonzero → s.NoReset (s.frameLen color + 2) →
    (∀ k, 1 ≤ k → k ≤ s.frameLen color + 1 → ∃ t, runFor k s = .next t ∧
      t.irqMask = true ∧ t.line = s.lineAt color (k - 1) ∧ t.updActive = false ∧ t.resp = none) ∧
    ∃ t, runFor (s.frameLen color + 2) s = .next t ∧ t.irqMask = false ∧ t.line = false ∧
      t.shift = 0 ∧ t.bitcnt = 0 ∧ (1 ≤ s.gapLen → t.seq = .txGap ∧ t.resp = none)

/-- The total duration (R130): without any update, the response comes `S + DRST + 1` cycles after the
cycle of `ENTER`, and not before; the line is low by then. For a latch gap of length 0 (`DRST = 0`) that
is the MODEL'S CHOICE of log 8. -/
def Obligations.FrameDurationIsExact : Prop :=
  ∀ (s : State) (color : Color), s.seq = .txEnter → s.frameColor = some color → s.updActive = false →
    s.line = false → s.cntEn = true → s.PhasesNonzero →
    s.NoReset (s.frameLen color + s.gapLen + 2) → s.NoUpdate (s.frameLen color + s.gapLen + 2) →
    (∀ k, 1 ≤ k → k ≤ s.frameLen color + s.gapLen + 1 → ∃ t, runFor k s = .next t ∧ t.resp = none) ∧
    ∃ t, runFor (s.frameLen color + s.gapLen + 2) s = .next t ∧
      t.resp = some { err := 0, data := 0 } ∧ t.seq = .idle ∧ t.line = false ∧ t.irqMask = false

/-- `S = n1 * (D1H + D1L) + n0 * (D0H + D0L)` (R130). -/
def Obligations.FrameLengthCountsOneBits : Prop :=
  ∀ (s : State) (color : Color),
    s.frameLen color =
      ((List.range 24).countP fun j => color.getLsbD j) * (s.highLen true + s.lowLen true) +
      (24 - (List.range 24).countP fun j => color.getLsbD j) * (s.highLen false + s.lowLen false)

/-! ## Acquisition and filter -/

/-- `ACQINIT` (R140, R141): clears the filter, arms the interrupt, responds `cfg_fail` zero-extended;
every word of `RING`, `ACC` and `FILT` reads 0 after it, and nothing else changes. -/
def Obligations.AcqinitClearsAndArms : Prop :=
  ∀ s : State, ∃ t, exec .acqinit s = .next t ∧
    (∀ (c : Fin 5) (k : Fin 32), t.memRead (.ring c k) = 0) ∧
    (∀ c : Fin 5, t.memRead (.acc c) = 0 ∧ t.memRead (.filt c) = 0) ∧
    t.resp = some { err := 0, data := s.inp.cfgFail.setWidth 32 } ∧
    t = { s with
      ring := t.ring, acc := t.acc, filt := t.filt, resp := t.resp
      cursor := 0, scanPend := false, irqArmed := true, seq := .idle }

/-- `ACQRD ch` with a channel below 5 (R146): responds the filtered word zero-extended and changes
nothing else. -/
def Obligations.AcqrdRespondsFilteredWord : Prop :=
  ∀ (s : State) (ch : Word) (h : ch.toNat < 5),
    exec (.acqrd ch) s = .next { s with
      resp := some { err := 0, data := s.filt[ch.toNat].setWidth 32 }, seq := .idle }

/-- `ACQRD ch` with a channel of 5 or more raises `BadChannel` (R147, R161, R163): code 2, data
unspecified, and no register but `SEQ` written. `freeCtr`, which counts the draw of the unspecified
data, is the MODEL'S own: log 7. -/
def Obligations.AcqrdOutOfRangeRaisesBadChannel : Prop :=
  ∀ (s : State) (ch : Word), 5 ≤ ch.toNat → ∃ d : Word,
    exec (.acqrd ch) s = .next { s with
      resp := some { err := 2, data := d }, seq := .idle, freeCtr := s.freeCtr + 1 }

/-- The start step of `UPDATE` (R169, R171): in an eligible cycle the interrupt is entered and nothing
else changes. MODEL'S CHOICE (log 19, DEDUCED from R169's "in no other"): outside one, no update being
active, a step of `UPDATE`, which the machine never takes there, changes nothing. -/
def Obligations.UpdateStartsInEligibleCycles : Prop :=
  ∀ s : State, s.updActive = false →
    (s.scanPend = true → s.irqArmed = true → s.irqMask = false →
      exec .update s = .next { s with scanPend := false, updActive := true, updCh := 0, scanAck := true }) ∧
    (s.scanPend = false ∨ s.irqArmed = false ∨ s.irqMask = true → exec .update s = .next s)

/-- The channel step of `UPDATE` (R143): the four assignments on the one sample read, `UPD_CH`
advances; every word but the three of this channel reads as before, and no other register changes. -/
def Obligations.UpdateChannelStep : Prop :=
  ∀ (s : State) (c : Fin 5), s.updActive = true → s.updCh.toNat = c.val →
    ∃ t, exec .update s = .next t ∧
      t.memRead (.acc c) = s.memRead (.acc c) - s.memRead (.ring c s.slot) + s.memRead (.raw c) ∧
      t.memRead (.ring c s.slot) = s.memRead (.raw c) ∧
      t.memRead (.filt c) = (((t.memRead (.acc c)).sshiftRight 5).setWidth 16).setWidth 32 ∧
      (∀ a : MemAddr, a ≠ .acc c → a ≠ .ring c s.slot → a ≠ .filt c → t.memRead a = s.memRead a) ∧
      t.updCh.toNat = c.val + 1 ∧
      t = { s with acc := t.acc, ring := t.ring, filt := t.filt, updCh := t.updCh }

/-- The cursor step of `UPDATE` (R144): `CURSOR <- (CURSOR + 1) mod 32`, the update ends, nothing else
changes. -/
def Obligations.UpdateCursorStep : Prop :=
  ∀ s : State, s.updActive = true → s.updCh = 5 →
    ∃ v : BitVec 5, v.toNat = (s.cursor.toNat + 1) % 32 ∧
      exec .update s = .next { s with cursor := v, updActive := false, updCh := 0 }

/-- A whole update, seven steps (R142): each channel's window moves by the one sample read, in every
channel at the same slot, and the cursor advances once. The steps are `UPDATE`'s own, without the clock
edges between them. -/
def Obligations.WholeUpdate : Prop :=
  ∀ s : State, s.eligible = true → ∃ t, execFor .update 7 s = .next t ∧
    (∀ c : Fin 5,
      t.memRead (.acc c) = s.memRead (.acc c) - s.memRead (.ring c s.slot) + s.memRead (.raw c) ∧
      t.memRead (.filt c) = (((t.memRead (.acc c)).sshiftRight 5).setWidth 16).setWidth 32 ∧
      (∀ k : Fin 32, t.memRead (.ring c k) = if k = s.slot then s.memRead (.raw c) else s.memRead (.ring c k))) ∧
    t = { s with
      acc := t.acc, ring := t.ring, filt := t.filt
      cursor := s.cursor + 1, scanPend := false, updActive := false, updCh := 0, scanAck := true }

/-- The moving window (R149, R152, R155): after any sequence of passes from the cleared filter,
wherever the cursor stands, `ACC[c]` is the sum of the last 32 samples of channel `c` (of all, during
warm-up) and `FILT[c]` its quotient by 32. A pass is the seven steps of `UPDATE`, without the clock
edges between them. -/
def Obligations.MovingWindow : Prop :=
  ∀ (s : State) (xs : List (Vector Sample 5)),
    s.irqArmed = true → s.irqMask = false → s.updActive = false →
    (∀ c k, s.memRead (.ring c k) = 0) → (∀ c, s.memRead (.acc c) = 0 ∧ s.memRead (.filt c) = 0) →
    ∃ t, runPasses xs s = .next t ∧ ∀ c : Fin 5,
      t.acc[c].toInt = (((xs.reverse.take 32).map fun x => x[c].toNat).sum : Nat) ∧
      t.filt[c].toNat = ((xs.reverse.take 32).map fun x => x[c].toNat).sum / 32

/-- Steady-state gain 1 (R153): if the last 32 updates all read `v` for channel `c`, `ACC[c] = 32 * v`
and `FILT[c] = v`, whatever was in the window before. A pass is the seven steps of `UPDATE`, without the
clock edges between them. -/
def Obligations.ConstantInputConverges : Prop :=
  ∀ (s : State) (xs : List (Vector Sample 5)) (c : Fin 5) (v : Sample),
    s.FilterInv → s.irqArmed = true → s.irqMask = false → s.updActive = false →
    xs.length = 32 → (∀ x ∈ xs, x[c] = v) →
    ∃ t, runPasses xs s = .next t ∧ t.acc[c].toNat = 32 * v.toNat ∧ t.filt[c] = v

/-- The ranges (R150): under the sum invariant the accumulator is 0 to 2097120, holds every slot of its
ring, and at most 131040 when every slot is a legal sample. -/
def Obligations.AccumulatorRange : Prop :=
  ∀ s : State, s.SumHolds → ∀ c : Fin 5,
    0 ≤ s.acc[c].toInt ∧ s.acc[c].toInt ≤ 2097120 ∧
    (∀ k : Fin 32, (s.ring[c][k].toNat : Int) ≤ s.acc[c].toInt) ∧
    ((∀ k : Fin 32, s.ring[c][k].toNat ≤ 4095) → s.acc[c].toInt ≤ 131040)

/-! ## Invariants -/

/-- The invariants of the filter and of the control registers hold after reset (R47). -/
def Obligations.InvariantsAtReset : Prop := State.reset.FilterInv ∧ State.reset.Coherent

/-- Every step keeps the filter's invariant: `s32(ACC[c])` is the sum of its ring and `u(FILT[c])` its
quotient by 32, whatever the environment writes and whenever (R148, R151). -/
def Obligations.StepKeepsFilterInv : Prop :=
  ∀ s t : State, s.FilterInv → step s = .next t → t.FilterInv

/-- Every step keeps the control registers in agreement (R43, R53, R125, R131, R180). -/
def Obligations.StepKeepsCoherent : Prop :=
  ∀ s t : State, s.Coherent → step s = .next t → t.Coherent

/-- No run stops: in a state whose control registers agree, the step answers a next state, whatever
the command, the parameters and the environment (R160, R161, R193). -/
def Obligations.CoherentStepNeverStops : Prop :=
  ∀ s : State, s.Coherent → ∃ t, step s = .next t

/-- The only stops (MODEL'S CHOICE: log 13). `exec` stops exactly at a frame's step outside the
transmitter's states and at a channel step of channel 6 or 7; no step of the machine stops in a state
whose control registers agree. The first stop is in a state whose registers do not agree, but for `SEQ`
at `IDLE`, in which the machine steps no command; the second always is. -/
def Obligations.IncoherentStatesStop : Prop :=
  (∀ (s : State) (i : Instr), ((∃ color, i = .tx color) ∨ ∃ idx, i = .txidx idx) →
    s.seq = .idle ∨ s.seq = .exec ∨ s.seq = .slpWait → exec i s = .fault .seqIncoherent ∧
      (s.seq ≠ .idle → s.fetch = .ok i → ¬ s.Coherent)) ∧
  (∀ s : State, s.updActive = true → 6 ≤ s.updCh.toNat →
    exec .update s = .fault .updChOutOfRange ∧ ¬ s.Coherent) ∧
  (∀ (s : State) (i : Instr), (∀ q, exec i s ≠ .refused q) ∧ ∀ r, exec i s = .fault r →
    (((∃ color, i = .tx color) ∨ ∃ idx, i = .txidx idx) ∧
      (s.seq = .idle ∨ s.seq = .exec ∨ s.seq = .slpWait) ∧ r = .seqIncoherent) ∨
    (i = .update ∧ s.updActive = true ∧ 6 ≤ s.updCh.toNat ∧ r = .updChOutOfRange)) ∧
  (∀ s : State, (∀ q, step s ≠ .refused q) ∧ ∀ r, step s = .fault r → ¬ s.Coherent)
end

