-- ==== Sys2Proof/Laws/State.lean ====
section
/-! SUPPORT. One lemma per field per named update of `State`, each true by `rfl`, so that no proof
unfolds a record update. -/

namespace Sys2Proof.Machine

/-! ## `State.respond` -/

@[simp] theorem State.respond_cfg (s : State) (v : Word) : (s.respond v).cfg = s.cfg := rfl
@[simp] theorem State.respond_cnt (s : State) (v : Word) : (s.respond v).cnt = s.cnt := rfl
@[simp] theorem State.respond_cntEn (s : State) (v : Word) : (s.respond v).cntEn = s.cntEn := rfl
@[simp] theorem State.respond_fHz (s : State) (v : Word) : (s.respond v).fHz = s.fHz := rfl
@[simp] theorem State.respond_t0h (s : State) (v : Word) : (s.respond v).t0h = s.t0h := rfl
@[simp] theorem State.respond_t0l (s : State) (v : Word) : (s.respond v).t0l = s.t0l := rfl
@[simp] theorem State.respond_t1h (s : State) (v : Word) : (s.respond v).t1h = s.t1h := rfl
@[simp] theorem State.respond_t1l (s : State) (v : Word) : (s.respond v).t1l = s.t1l := rfl
@[simp] theorem State.respond_trst (s : State) (v : Word) : (s.respond v).trst = s.trst := rfl
@[simp] theorem State.respond_goal (s : State) (v : Word) : (s.respond v).goal = s.goal := rfl
@[simp] theorem State.respond_shift (s : State) (v : Word) : (s.respond v).shift = s.shift := rfl
@[simp] theorem State.respond_bitcnt (s : State) (v : Word) : (s.respond v).bitcnt = s.bitcnt := rfl
@[simp] theorem State.respond_line (s : State) (v : Word) : (s.respond v).line = s.line := rfl
@[simp] theorem State.respond_irqMask (s : State) (v : Word) : (s.respond v).irqMask = s.irqMask := rfl
@[simp] theorem State.respond_seq (s : State) (v : Word) : (s.respond v).seq = .idle := rfl
@[simp] theorem State.respond_waiting (s : State) (v : Word) : (s.respond v).waiting = s.waiting := rfl
@[simp] theorem State.respond_ovhc (s : State) (v : Word) : (s.respond v).ovhc = s.ovhc := rfl
@[simp] theorem State.respond_cmdreg (s : State) (v : Word) : (s.respond v).cmdreg = s.cmdreg := rfl
@[simp] theorem State.respond_raw (s : State) (v : Word) : (s.respond v).raw = s.raw := rfl
@[simp] theorem State.respond_ring (s : State) (v : Word) : (s.respond v).ring = s.ring := rfl
@[simp] theorem State.respond_acc (s : State) (v : Word) : (s.respond v).acc = s.acc := rfl
@[simp] theorem State.respond_filt (s : State) (v : Word) : (s.respond v).filt = s.filt := rfl
@[simp] theorem State.respond_cursor (s : State) (v : Word) : (s.respond v).cursor = s.cursor := rfl
@[simp] theorem State.respond_scanPend (s : State) (v : Word) : (s.respond v).scanPend = s.scanPend := rfl
@[simp] theorem State.respond_irqArmed (s : State) (v : Word) : (s.respond v).irqArmed = s.irqArmed := rfl
@[simp] theorem State.respond_updActive (s : State) (v : Word) : (s.respond v).updActive = s.updActive := rfl
@[simp] theorem State.respond_updCh (s : State) (v : Word) : (s.respond v).updCh = s.updCh := rfl
@[simp] theorem State.respond_resp (s : State) (v : Word) : (s.respond v).resp = some { err := 0, data := v } := rfl
@[simp] theorem State.respond_scanAck (s : State) (v : Word) : (s.respond v).scanAck = s.scanAck := rfl
@[simp] theorem State.respond_tape (s : State) (v : Word) : (s.respond v).tape = s.tape := rfl
@[simp] theorem State.respond_freeCtr (s : State) (v : Word) : (s.respond v).freeCtr = s.freeCtr := rfl

/-! ## `State.raiseFault` -/

@[simp] theorem State.raiseFault_cfg (s : State) (f : FaultCode) : (s.raiseFault f).cfg = s.cfg := rfl
@[simp] theorem State.raiseFault_cnt (s : State) (f : FaultCode) : (s.raiseFault f).cnt = s.cnt := rfl
@[simp] theorem State.raiseFault_cntEn (s : State) (f : FaultCode) : (s.raiseFault f).cntEn = s.cntEn := rfl
@[simp] theorem State.raiseFault_fHz (s : State) (f : FaultCode) : (s.raiseFault f).fHz = s.fHz := rfl
@[simp] theorem State.raiseFault_t0h (s : State) (f : FaultCode) : (s.raiseFault f).t0h = s.t0h := rfl
@[simp] theorem State.raiseFault_t0l (s : State) (f : FaultCode) : (s.raiseFault f).t0l = s.t0l := rfl
@[simp] theorem State.raiseFault_t1h (s : State) (f : FaultCode) : (s.raiseFault f).t1h = s.t1h := rfl
@[simp] theorem State.raiseFault_t1l (s : State) (f : FaultCode) : (s.raiseFault f).t1l = s.t1l := rfl
@[simp] theorem State.raiseFault_trst (s : State) (f : FaultCode) : (s.raiseFault f).trst = s.trst := rfl
@[simp] theorem State.raiseFault_goal (s : State) (f : FaultCode) : (s.raiseFault f).goal = s.goal := rfl
@[simp] theorem State.raiseFault_shift (s : State) (f : FaultCode) : (s.raiseFault f).shift = s.shift := rfl
@[simp] theorem State.raiseFault_bitcnt (s : State) (f : FaultCode) : (s.raiseFault f).bitcnt = s.bitcnt := rfl
@[simp] theorem State.raiseFault_line (s : State) (f : FaultCode) : (s.raiseFault f).line = s.line := rfl
@[simp] theorem State.raiseFault_irqMask (s : State) (f : FaultCode) : (s.raiseFault f).irqMask = s.irqMask := rfl
@[simp] theorem State.raiseFault_seq (s : State) (f : FaultCode) : (s.raiseFault f).seq = .idle := rfl
@[simp] theorem State.raiseFault_waiting (s : State) (f : FaultCode) : (s.raiseFault f).waiting = s.waiting := rfl
@[simp] theorem State.raiseFault_ovhc (s : State) (f : FaultCode) : (s.raiseFault f).ovhc = s.ovhc := rfl
@[simp] theorem State.raiseFault_cmdreg (s : State) (f : FaultCode) : (s.raiseFault f).cmdreg = s.cmdreg := rfl
@[simp] theorem State.raiseFault_raw (s : State) (f : FaultCode) : (s.raiseFault f).raw = s.raw := rfl
@[simp] theorem State.raiseFault_ring (s : State) (f : FaultCode) : (s.raiseFault f).ring = s.ring := rfl
@[simp] theorem State.raiseFault_acc (s : State) (f : FaultCode) : (s.raiseFault f).acc = s.acc := rfl
@[simp] theorem State.raiseFault_filt (s : State) (f : FaultCode) : (s.raiseFault f).filt = s.filt := rfl
@[simp] theorem State.raiseFault_cursor (s : State) (f : FaultCode) : (s.raiseFault f).cursor = s.cursor := rfl
@[simp] theorem State.raiseFault_scanPend (s : State) (f : FaultCode) : (s.raiseFault f).scanPend = s.scanPend := rfl
@[simp] theorem State.raiseFault_irqArmed (s : State) (f : FaultCode) : (s.raiseFault f).irqArmed = s.irqArmed := rfl
@[simp] theorem State.raiseFault_updActive (s : State) (f : FaultCode) : (s.raiseFault f).updActive = s.updActive := rfl
@[simp] theorem State.raiseFault_updCh (s : State) (f : FaultCode) : (s.raiseFault f).updCh = s.updCh := rfl
@[simp] theorem State.raiseFault_resp (s : State) (f : FaultCode) : (s.raiseFault f).resp = some { err := f.code, data := Config.freeResp s.freeCtr } := rfl
@[simp] theorem State.raiseFault_scanAck (s : State) (f : FaultCode) : (s.raiseFault f).scanAck = s.scanAck := rfl
@[simp] theorem State.raiseFault_tape (s : State) (f : FaultCode) : (s.raiseFault f).tape = s.tape := rfl
@[simp] theorem State.raiseFault_freeCtr (s : State) (f : FaultCode) : (s.raiseFault f).freeCtr = s.freeCtr + 1 := rfl

/-! ## `State.enterUpdate` -/

@[simp] theorem State.enterUpdate_cfg (s : State) : (s.enterUpdate).cfg = s.cfg := rfl
@[simp] theorem State.enterUpdate_cnt (s : State) : (s.enterUpdate).cnt = s.cnt := rfl
@[simp] theorem State.enterUpdate_cntEn (s : State) : (s.enterUpdate).cntEn = s.cntEn := rfl
@[simp] theorem State.enterUpdate_fHz (s : State) : (s.enterUpdate).fHz = s.fHz := rfl
@[simp] theorem State.enterUpdate_t0h (s : State) : (s.enterUpdate).t0h = s.t0h := rfl
@[simp] theorem State.enterUpdate_t0l (s : State) : (s.enterUpdate).t0l = s.t0l := rfl
@[simp] theorem State.enterUpdate_t1h (s : State) : (s.enterUpdate).t1h = s.t1h := rfl
@[simp] theorem State.enterUpdate_t1l (s : State) : (s.enterUpdate).t1l = s.t1l := rfl
@[simp] theorem State.enterUpdate_trst (s : State) : (s.enterUpdate).trst = s.trst := rfl
@[simp] theorem State.enterUpdate_goal (s : State) : (s.enterUpdate).goal = s.goal := rfl
@[simp] theorem State.enterUpdate_shift (s : State) : (s.enterUpdate).shift = s.shift := rfl
@[simp] theorem State.enterUpdate_bitcnt (s : State) : (s.enterUpdate).bitcnt = s.bitcnt := rfl
@[simp] theorem State.enterUpdate_line (s : State) : (s.enterUpdate).line = s.line := rfl
@[simp] theorem State.enterUpdate_irqMask (s : State) : (s.enterUpdate).irqMask = s.irqMask := rfl
@[simp] theorem State.enterUpdate_seq (s : State) : (s.enterUpdate).seq = s.seq := rfl
@[simp] theorem State.enterUpdate_waiting (s : State) : (s.enterUpdate).waiting = s.waiting := rfl
@[simp] theorem State.enterUpdate_ovhc (s : State) : (s.enterUpdate).ovhc = s.ovhc := rfl
@[simp] theorem State.enterUpdate_cmdreg (s : State) : (s.enterUpdate).cmdreg = s.cmdreg := rfl
@[simp] theorem State.enterUpdate_raw (s : State) : (s.enterUpdate).raw = s.raw := rfl
@[simp] theorem State.enterUpdate_ring (s : State) : (s.enterUpdate).ring = s.ring := rfl
@[simp] theorem State.enterUpdate_acc (s : State) : (s.enterUpdate).acc = s.acc := rfl
@[simp] theorem State.enterUpdate_filt (s : State) : (s.enterUpdate).filt = s.filt := rfl
@[simp] theorem State.enterUpdate_cursor (s : State) : (s.enterUpdate).cursor = s.cursor := rfl
@[simp] theorem State.enterUpdate_scanPend (s : State) : (s.enterUpdate).scanPend = false := rfl
@[simp] theorem State.enterUpdate_irqArmed (s : State) : (s.enterUpdate).irqArmed = s.irqArmed := rfl
@[simp] theorem State.enterUpdate_updActive (s : State) : (s.enterUpdate).updActive = true := rfl
@[simp] theorem State.enterUpdate_updCh (s : State) : (s.enterUpdate).updCh = 0 := rfl
@[simp] theorem State.enterUpdate_resp (s : State) : (s.enterUpdate).resp = s.resp := rfl
@[simp] theorem State.enterUpdate_scanAck (s : State) : (s.enterUpdate).scanAck = true := rfl
@[simp] theorem State.enterUpdate_tape (s : State) : (s.enterUpdate).tape = s.tape := rfl
@[simp] theorem State.enterUpdate_freeCtr (s : State) : (s.enterUpdate).freeCtr = s.freeCtr := rfl

/-! ## `State.leaveUpdate` -/

@[simp] theorem State.leaveUpdate_cfg (s : State) : (s.leaveUpdate).cfg = s.cfg := rfl
@[simp] theorem State.leaveUpdate_cnt (s : State) : (s.leaveUpdate).cnt = s.cnt := rfl
@[simp] theorem State.leaveUpdate_cntEn (s : State) : (s.leaveUpdate).cntEn = s.cntEn := rfl
@[simp] theorem State.leaveUpdate_fHz (s : State) : (s.leaveUpdate).fHz = s.fHz := rfl
@[simp] theorem State.leaveUpdate_t0h (s : State) : (s.leaveUpdate).t0h = s.t0h := rfl
@[simp] theorem State.leaveUpdate_t0l (s : State) : (s.leaveUpdate).t0l = s.t0l := rfl
@[simp] theorem State.leaveUpdate_t1h (s : State) : (s.leaveUpdate).t1h = s.t1h := rfl
@[simp] theorem State.leaveUpdate_t1l (s : State) : (s.leaveUpdate).t1l = s.t1l := rfl
@[simp] theorem State.leaveUpdate_trst (s : State) : (s.leaveUpdate).trst = s.trst := rfl
@[simp] theorem State.leaveUpdate_goal (s : State) : (s.leaveUpdate).goal = s.goal := rfl
@[simp] theorem State.leaveUpdate_shift (s : State) : (s.leaveUpdate).shift = s.shift := rfl
@[simp] theorem State.leaveUpdate_bitcnt (s : State) : (s.leaveUpdate).bitcnt = s.bitcnt := rfl
@[simp] theorem State.leaveUpdate_line (s : State) : (s.leaveUpdate).line = s.line := rfl
@[simp] theorem State.leaveUpdate_irqMask (s : State) : (s.leaveUpdate).irqMask = s.irqMask := rfl
@[simp] theorem State.leaveUpdate_seq (s : State) : (s.leaveUpdate).seq = s.seq := rfl
@[simp] theorem State.leaveUpdate_waiting (s : State) : (s.leaveUpdate).waiting = s.waiting := rfl
@[simp] theorem State.leaveUpdate_ovhc (s : State) : (s.leaveUpdate).ovhc = s.ovhc := rfl
@[simp] theorem State.leaveUpdate_cmdreg (s : State) : (s.leaveUpdate).cmdreg = s.cmdreg := rfl
@[simp] theorem State.leaveUpdate_raw (s : State) : (s.leaveUpdate).raw = s.raw := rfl
@[simp] theorem State.leaveUpdate_ring (s : State) : (s.leaveUpdate).ring = s.ring := rfl
@[simp] theorem State.leaveUpdate_acc (s : State) : (s.leaveUpdate).acc = s.acc := rfl
@[simp] theorem State.leaveUpdate_filt (s : State) : (s.leaveUpdate).filt = s.filt := rfl
@[simp] theorem State.leaveUpdate_cursor (s : State) : (s.leaveUpdate).cursor = s.cursor + 1 := rfl
@[simp] theorem State.leaveUpdate_scanPend (s : State) : (s.leaveUpdate).scanPend = s.scanPend := rfl
@[simp] theorem State.leaveUpdate_irqArmed (s : State) : (s.leaveUpdate).irqArmed = s.irqArmed := rfl
@[simp] theorem State.leaveUpdate_updActive (s : State) : (s.leaveUpdate).updActive = false := rfl
@[simp] theorem State.leaveUpdate_updCh (s : State) : (s.leaveUpdate).updCh = 0 := rfl
@[simp] theorem State.leaveUpdate_resp (s : State) : (s.leaveUpdate).resp = s.resp := rfl
@[simp] theorem State.leaveUpdate_scanAck (s : State) : (s.leaveUpdate).scanAck = s.scanAck := rfl
@[simp] theorem State.leaveUpdate_tape (s : State) : (s.leaveUpdate).tape = s.tape := rfl
@[simp] theorem State.leaveUpdate_freeCtr (s : State) : (s.leaveUpdate).freeCtr = s.freeCtr := rfl

/-! ## `State.clearFilter` -/

@[simp] theorem State.clearFilter_cfg (s : State) : (s.clearFilter).cfg = s.cfg := rfl
@[simp] theorem State.clearFilter_cnt (s : State) : (s.clearFilter).cnt = s.cnt := rfl
@[simp] theorem State.clearFilter_cntEn (s : State) : (s.clearFilter).cntEn = s.cntEn := rfl
@[simp] theorem State.clearFilter_fHz (s : State) : (s.clearFilter).fHz = s.fHz := rfl
@[simp] theorem State.clearFilter_t0h (s : State) : (s.clearFilter).t0h = s.t0h := rfl
@[simp] theorem State.clearFilter_t0l (s : State) : (s.clearFilter).t0l = s.t0l := rfl
@[simp] theorem State.clearFilter_t1h (s : State) : (s.clearFilter).t1h = s.t1h := rfl
@[simp] theorem State.clearFilter_t1l (s : State) : (s.clearFilter).t1l = s.t1l := rfl
@[simp] theorem State.clearFilter_trst (s : State) : (s.clearFilter).trst = s.trst := rfl
@[simp] theorem State.clearFilter_goal (s : State) : (s.clearFilter).goal = s.goal := rfl
@[simp] theorem State.clearFilter_shift (s : State) : (s.clearFilter).shift = s.shift := rfl
@[simp] theorem State.clearFilter_bitcnt (s : State) : (s.clearFilter).bitcnt = s.bitcnt := rfl
@[simp] theorem State.clearFilter_line (s : State) : (s.clearFilter).line = s.line := rfl
@[simp] theorem State.clearFilter_irqMask (s : State) : (s.clearFilter).irqMask = s.irqMask := rfl
@[simp] theorem State.clearFilter_seq (s : State) : (s.clearFilter).seq = s.seq := rfl
@[simp] theorem State.clearFilter_waiting (s : State) : (s.clearFilter).waiting = s.waiting := rfl
@[simp] theorem State.clearFilter_ovhc (s : State) : (s.clearFilter).ovhc = s.ovhc := rfl
@[simp] theorem State.clearFilter_cmdreg (s : State) : (s.clearFilter).cmdreg = s.cmdreg := rfl
@[simp] theorem State.clearFilter_raw (s : State) : (s.clearFilter).raw = s.raw := rfl
@[simp] theorem State.clearFilter_ring (s : State) : (s.clearFilter).ring = Vector.replicate 5 (Vector.replicate 32 0) := rfl
@[simp] theorem State.clearFilter_acc (s : State) : (s.clearFilter).acc = Vector.replicate 5 0 := rfl
@[simp] theorem State.clearFilter_filt (s : State) : (s.clearFilter).filt = Vector.replicate 5 0 := rfl
@[simp] theorem State.clearFilter_cursor (s : State) : (s.clearFilter).cursor = 0 := rfl
@[simp] theorem State.clearFilter_scanPend (s : State) : (s.clearFilter).scanPend = false := rfl
@[simp] theorem State.clearFilter_irqArmed (s : State) : (s.clearFilter).irqArmed = true := rfl
@[simp] theorem State.clearFilter_updActive (s : State) : (s.clearFilter).updActive = s.updActive := rfl
@[simp] theorem State.clearFilter_updCh (s : State) : (s.clearFilter).updCh = s.updCh := rfl
@[simp] theorem State.clearFilter_resp (s : State) : (s.clearFilter).resp = s.resp := rfl
@[simp] theorem State.clearFilter_scanAck (s : State) : (s.clearFilter).scanAck = s.scanAck := rfl
@[simp] theorem State.clearFilter_tape (s : State) : (s.clearFilter).tape = s.tape := rfl
@[simp] theorem State.clearFilter_freeCtr (s : State) : (s.clearFilter).freeCtr = s.freeCtr := rfl

/-! ## `State.txEnterStep` -/

@[simp] theorem State.txEnterStep_cfg (s : State) (color : Color) : (s.txEnterStep color).cfg = s.cfg := rfl
@[simp] theorem State.txEnterStep_cnt (s : State) (color : Color) : (s.txEnterStep color).cnt = s.cnt := rfl
@[simp] theorem State.txEnterStep_cntEn (s : State) (color : Color) : (s.txEnterStep color).cntEn = s.cntEn := rfl
@[simp] theorem State.txEnterStep_fHz (s : State) (color : Color) : (s.txEnterStep color).fHz = s.fHz := rfl
@[simp] theorem State.txEnterStep_t0h (s : State) (color : Color) : (s.txEnterStep color).t0h = s.t0h := rfl
@[simp] theorem State.txEnterStep_t0l (s : State) (color : Color) : (s.txEnterStep color).t0l = s.t0l := rfl
@[simp] theorem State.txEnterStep_t1h (s : State) (color : Color) : (s.txEnterStep color).t1h = s.t1h := rfl
@[simp] theorem State.txEnterStep_t1l (s : State) (color : Color) : (s.txEnterStep color).t1l = s.t1l := rfl
@[simp] theorem State.txEnterStep_trst (s : State) (color : Color) : (s.txEnterStep color).trst = s.trst := rfl
@[simp] theorem State.txEnterStep_goal (s : State) (color : Color) : (s.txEnterStep color).goal = s.goal := rfl
@[simp] theorem State.txEnterStep_shift (s : State) (color : Color) : (s.txEnterStep color).shift = color := rfl
@[simp] theorem State.txEnterStep_bitcnt (s : State) (color : Color) : (s.txEnterStep color).bitcnt = 24 := rfl
@[simp] theorem State.txEnterStep_line (s : State) (color : Color) : (s.txEnterStep color).line = s.line := rfl
@[simp] theorem State.txEnterStep_irqMask (s : State) (color : Color) : (s.txEnterStep color).irqMask = true := rfl
@[simp] theorem State.txEnterStep_seq (s : State) (color : Color) : (s.txEnterStep color).seq = .txHigh := rfl
@[simp] theorem State.txEnterStep_waiting (s : State) (color : Color) : (s.txEnterStep color).waiting = false := rfl
@[simp] theorem State.txEnterStep_ovhc (s : State) (color : Color) : (s.txEnterStep color).ovhc = 0 := rfl
@[simp] theorem State.txEnterStep_cmdreg (s : State) (color : Color) : (s.txEnterStep color).cmdreg = s.cmdreg := rfl
@[simp] theorem State.txEnterStep_raw (s : State) (color : Color) : (s.txEnterStep color).raw = s.raw := rfl
@[simp] theorem State.txEnterStep_ring (s : State) (color : Color) : (s.txEnterStep color).ring = s.ring := rfl
@[simp] theorem State.txEnterStep_acc (s : State) (color : Color) : (s.txEnterStep color).acc = s.acc := rfl
@[simp] theorem State.txEnterStep_filt (s : State) (color : Color) : (s.txEnterStep color).filt = s.filt := rfl
@[simp] theorem State.txEnterStep_cursor (s : State) (color : Color) : (s.txEnterStep color).cursor = s.cursor := rfl
@[simp] theorem State.txEnterStep_scanPend (s : State) (color : Color) : (s.txEnterStep color).scanPend = s.scanPend := rfl
@[simp] theorem State.txEnterStep_irqArmed (s : State) (color : Color) : (s.txEnterStep color).irqArmed = s.irqArmed := rfl
@[simp] theorem State.txEnterStep_updActive (s : State) (color : Color) : (s.txEnterStep color).updActive = s.updActive := rfl
@[simp] theorem State.txEnterStep_updCh (s : State) (color : Color) : (s.txEnterStep color).updCh = s.updCh := rfl
@[simp] theorem State.txEnterStep_resp (s : State) (color : Color) : (s.txEnterStep color).resp = s.resp := rfl
@[simp] theorem State.txEnterStep_scanAck (s : State) (color : Color) : (s.txEnterStep color).scanAck = s.scanAck := rfl
@[simp] theorem State.txEnterStep_tape (s : State) (color : Color) : (s.txEnterStep color).tape = s.tape := rfl
@[simp] theorem State.txEnterStep_freeCtr (s : State) (color : Color) : (s.txEnterStep color).freeCtr = s.freeCtr := rfl

/-! ## `State.txShift` -/

@[simp] theorem State.txShift_cfg (s : State) : (s.txShift).cfg = s.cfg := rfl
@[simp] theorem State.txShift_cnt (s : State) : (s.txShift).cnt = s.cnt := rfl
@[simp] theorem State.txShift_cntEn (s : State) : (s.txShift).cntEn = s.cntEn := rfl
@[simp] theorem State.txShift_fHz (s : State) : (s.txShift).fHz = s.fHz := rfl
@[simp] theorem State.txShift_t0h (s : State) : (s.txShift).t0h = s.t0h := rfl
@[simp] theorem State.txShift_t0l (s : State) : (s.txShift).t0l = s.t0l := rfl
@[simp] theorem State.txShift_t1h (s : State) : (s.txShift).t1h = s.t1h := rfl
@[simp] theorem State.txShift_t1l (s : State) : (s.txShift).t1l = s.t1l := rfl
@[simp] theorem State.txShift_trst (s : State) : (s.txShift).trst = s.trst := rfl
@[simp] theorem State.txShift_goal (s : State) : (s.txShift).goal = s.goal := rfl
@[simp] theorem State.txShift_shift (s : State) : (s.txShift).shift = s.shift <<< 1 := rfl
@[simp] theorem State.txShift_bitcnt (s : State) : (s.txShift).bitcnt = s.bitcnt - 1 := rfl
@[simp] theorem State.txShift_line (s : State) : (s.txShift).line = s.line := rfl
@[simp] theorem State.txShift_irqMask (s : State) : (s.txShift).irqMask = s.irqMask := rfl
@[simp] theorem State.txShift_seq (s : State) : (s.txShift).seq = s.seq := rfl
@[simp] theorem State.txShift_waiting (s : State) : (s.txShift).waiting = s.waiting := rfl
@[simp] theorem State.txShift_ovhc (s : State) : (s.txShift).ovhc = s.ovhc := rfl
@[simp] theorem State.txShift_cmdreg (s : State) : (s.txShift).cmdreg = s.cmdreg := rfl
@[simp] theorem State.txShift_raw (s : State) : (s.txShift).raw = s.raw := rfl
@[simp] theorem State.txShift_ring (s : State) : (s.txShift).ring = s.ring := rfl
@[simp] theorem State.txShift_acc (s : State) : (s.txShift).acc = s.acc := rfl
@[simp] theorem State.txShift_filt (s : State) : (s.txShift).filt = s.filt := rfl
@[simp] theorem State.txShift_cursor (s : State) : (s.txShift).cursor = s.cursor := rfl
@[simp] theorem State.txShift_scanPend (s : State) : (s.txShift).scanPend = s.scanPend := rfl
@[simp] theorem State.txShift_irqArmed (s : State) : (s.txShift).irqArmed = s.irqArmed := rfl
@[simp] theorem State.txShift_updActive (s : State) : (s.txShift).updActive = s.updActive := rfl
@[simp] theorem State.txShift_updCh (s : State) : (s.txShift).updCh = s.updCh := rfl
@[simp] theorem State.txShift_resp (s : State) : (s.txShift).resp = s.resp := rfl
@[simp] theorem State.txShift_scanAck (s : State) : (s.txShift).scanAck = s.scanAck := rfl
@[simp] theorem State.txShift_tape (s : State) : (s.txShift).tape = s.tape := rfl
@[simp] theorem State.txShift_freeCtr (s : State) : (s.txShift).freeCtr = s.freeCtr := rfl

/-! ## `State.txDone` -/

@[simp] theorem State.txDone_cfg (s : State) : (s.txDone).cfg = s.cfg := rfl
@[simp] theorem State.txDone_cnt (s : State) : (s.txDone).cnt = s.cnt := rfl
@[simp] theorem State.txDone_cntEn (s : State) : (s.txDone).cntEn = s.cntEn := rfl
@[simp] theorem State.txDone_fHz (s : State) : (s.txDone).fHz = s.fHz := rfl
@[simp] theorem State.txDone_t0h (s : State) : (s.txDone).t0h = s.t0h := rfl
@[simp] theorem State.txDone_t0l (s : State) : (s.txDone).t0l = s.t0l := rfl
@[simp] theorem State.txDone_t1h (s : State) : (s.txDone).t1h = s.t1h := rfl
@[simp] theorem State.txDone_t1l (s : State) : (s.txDone).t1l = s.t1l := rfl
@[simp] theorem State.txDone_trst (s : State) : (s.txDone).trst = s.trst := rfl
@[simp] theorem State.txDone_goal (s : State) : (s.txDone).goal = s.goal := rfl
@[simp] theorem State.txDone_shift (s : State) : (s.txDone).shift = s.shift := rfl
@[simp] theorem State.txDone_bitcnt (s : State) : (s.txDone).bitcnt = s.bitcnt := rfl
@[simp] theorem State.txDone_line (s : State) : (s.txDone).line = s.line := rfl
@[simp] theorem State.txDone_irqMask (s : State) : (s.txDone).irqMask = s.irqMask := rfl
@[simp] theorem State.txDone_seq (s : State) : (s.txDone).seq = .idle := rfl
@[simp] theorem State.txDone_waiting (s : State) : (s.txDone).waiting = false := rfl
@[simp] theorem State.txDone_ovhc (s : State) : (s.txDone).ovhc = 0 := rfl
@[simp] theorem State.txDone_cmdreg (s : State) : (s.txDone).cmdreg = s.cmdreg := rfl
@[simp] theorem State.txDone_raw (s : State) : (s.txDone).raw = s.raw := rfl
@[simp] theorem State.txDone_ring (s : State) : (s.txDone).ring = s.ring := rfl
@[simp] theorem State.txDone_acc (s : State) : (s.txDone).acc = s.acc := rfl
@[simp] theorem State.txDone_filt (s : State) : (s.txDone).filt = s.filt := rfl
@[simp] theorem State.txDone_cursor (s : State) : (s.txDone).cursor = s.cursor := rfl
@[simp] theorem State.txDone_scanPend (s : State) : (s.txDone).scanPend = s.scanPend := rfl
@[simp] theorem State.txDone_irqArmed (s : State) : (s.txDone).irqArmed = s.irqArmed := rfl
@[simp] theorem State.txDone_updActive (s : State) : (s.txDone).updActive = s.updActive := rfl
@[simp] theorem State.txDone_updCh (s : State) : (s.txDone).updCh = s.updCh := rfl
@[simp] theorem State.txDone_resp (s : State) : (s.txDone).resp = some { err := 0, data := 0 } := rfl
@[simp] theorem State.txDone_scanAck (s : State) : (s.txDone).scanAck = s.scanAck := rfl
@[simp] theorem State.txDone_tape (s : State) : (s.txDone).tape = s.tape := rfl
@[simp] theorem State.txDone_freeCtr (s : State) : (s.txDone).freeCtr = s.freeCtr := rfl

/-! ## `State.beginCycle` -/

@[simp] theorem State.beginCycle_cfg (s : State) : (s.beginCycle).cfg = s.cfg := rfl
@[simp] theorem State.beginCycle_cnt (s : State) : (s.beginCycle).cnt = s.cnt := rfl
@[simp] theorem State.beginCycle_cntEn (s : State) : (s.beginCycle).cntEn = s.cntEn := rfl
@[simp] theorem State.beginCycle_fHz (s : State) : (s.beginCycle).fHz = s.fHz := rfl
@[simp] theorem State.beginCycle_t0h (s : State) : (s.beginCycle).t0h = s.t0h := rfl
@[simp] theorem State.beginCycle_t0l (s : State) : (s.beginCycle).t0l = s.t0l := rfl
@[simp] theorem State.beginCycle_t1h (s : State) : (s.beginCycle).t1h = s.t1h := rfl
@[simp] theorem State.beginCycle_t1l (s : State) : (s.beginCycle).t1l = s.t1l := rfl
@[simp] theorem State.beginCycle_trst (s : State) : (s.beginCycle).trst = s.trst := rfl
@[simp] theorem State.beginCycle_goal (s : State) : (s.beginCycle).goal = s.goal := rfl
@[simp] theorem State.beginCycle_shift (s : State) : (s.beginCycle).shift = s.shift := rfl
@[simp] theorem State.beginCycle_bitcnt (s : State) : (s.beginCycle).bitcnt = s.bitcnt := rfl
@[simp] theorem State.beginCycle_line (s : State) : (s.beginCycle).line = s.line := rfl
@[simp] theorem State.beginCycle_irqMask (s : State) : (s.beginCycle).irqMask = s.irqMask := rfl
@[simp] theorem State.beginCycle_seq (s : State) : (s.beginCycle).seq = s.seq := rfl
@[simp] theorem State.beginCycle_waiting (s : State) : (s.beginCycle).waiting = s.waiting := rfl
@[simp] theorem State.beginCycle_ovhc (s : State) : (s.beginCycle).ovhc = s.ovhc := rfl
@[simp] theorem State.beginCycle_cmdreg (s : State) : (s.beginCycle).cmdreg = s.cmdreg := rfl
@[simp] theorem State.beginCycle_raw (s : State) : (s.beginCycle).raw = s.raw := rfl
@[simp] theorem State.beginCycle_ring (s : State) : (s.beginCycle).ring = s.ring := rfl
@[simp] theorem State.beginCycle_acc (s : State) : (s.beginCycle).acc = s.acc := rfl
@[simp] theorem State.beginCycle_filt (s : State) : (s.beginCycle).filt = s.filt := rfl
@[simp] theorem State.beginCycle_cursor (s : State) : (s.beginCycle).cursor = s.cursor := rfl
@[simp] theorem State.beginCycle_scanPend (s : State) : (s.beginCycle).scanPend = s.scanPend := rfl
@[simp] theorem State.beginCycle_irqArmed (s : State) : (s.beginCycle).irqArmed = s.irqArmed := rfl
@[simp] theorem State.beginCycle_updActive (s : State) : (s.beginCycle).updActive = s.updActive := rfl
@[simp] theorem State.beginCycle_updCh (s : State) : (s.beginCycle).updCh = s.updCh := rfl
@[simp] theorem State.beginCycle_resp (s : State) : (s.beginCycle).resp = none := rfl
@[simp] theorem State.beginCycle_scanAck (s : State) : (s.beginCycle).scanAck = false := rfl
@[simp] theorem State.beginCycle_tape (s : State) : (s.beginCycle).tape = s.tape := rfl
@[simp] theorem State.beginCycle_freeCtr (s : State) : (s.beginCycle).freeCtr = s.freeCtr := rfl

/-! ## `State.endCycle` -/

@[simp] theorem State.endCycle_cfg (held t : State) : (held.endCycle t).cfg = t.cfg :=
  rfl
@[simp] theorem State.endCycle_cnt (held t : State) : (held.endCycle t).cnt = if held.cntEn then t.cnt + 1 else t.cnt :=
  rfl
@[simp] theorem State.endCycle_cntEn (held t : State) : (held.endCycle t).cntEn = t.cntEn :=
  rfl
@[simp] theorem State.endCycle_fHz (held t : State) : (held.endCycle t).fHz = t.fHz :=
  rfl
@[simp] theorem State.endCycle_t0h (held t : State) : (held.endCycle t).t0h = t.t0h :=
  rfl
@[simp] theorem State.endCycle_t0l (held t : State) : (held.endCycle t).t0l = t.t0l :=
  rfl
@[simp] theorem State.endCycle_t1h (held t : State) : (held.endCycle t).t1h = t.t1h :=
  rfl
@[simp] theorem State.endCycle_t1l (held t : State) : (held.endCycle t).t1l = t.t1l :=
  rfl
@[simp] theorem State.endCycle_trst (held t : State) : (held.endCycle t).trst = t.trst :=
  rfl
@[simp] theorem State.endCycle_goal (held t : State) : (held.endCycle t).goal = t.goal :=
  rfl
@[simp] theorem State.endCycle_shift (held t : State) : (held.endCycle t).shift = t.shift :=
  rfl
@[simp] theorem State.endCycle_bitcnt (held t : State) : (held.endCycle t).bitcnt = t.bitcnt :=
  rfl
@[simp] theorem State.endCycle_line (held t : State) : (held.endCycle t).line = t.line :=
  rfl
@[simp] theorem State.endCycle_irqMask (held t : State) : (held.endCycle t).irqMask = t.irqMask :=
  rfl
@[simp] theorem State.endCycle_seq (held t : State) : (held.endCycle t).seq = if held.accepts then startSeq (opField held.inp.cmdWord) else t.seq :=
  rfl
@[simp] theorem State.endCycle_waiting (held t : State) : (held.endCycle t).waiting = t.waiting :=
  rfl
@[simp] theorem State.endCycle_ovhc (held t : State) : (held.endCycle t).ovhc = t.ovhc :=
  rfl
@[simp] theorem State.endCycle_cmdreg (held t : State) : (held.endCycle t).cmdreg = if held.accepts then held.inp.cmdWord else t.cmdreg :=
  rfl
@[simp] theorem State.endCycle_raw (held t : State) : (held.endCycle t).raw = rawWrite t.raw held.inp :=
  rfl
@[simp] theorem State.endCycle_ring (held t : State) : (held.endCycle t).ring = t.ring :=
  rfl
@[simp] theorem State.endCycle_acc (held t : State) : (held.endCycle t).acc = t.acc :=
  rfl
@[simp] theorem State.endCycle_filt (held t : State) : (held.endCycle t).filt = t.filt :=
  rfl
@[simp] theorem State.endCycle_cursor (held t : State) : (held.endCycle t).cursor = t.cursor :=
  rfl
@[simp] theorem State.endCycle_scanPend (held t : State) : (held.endCycle t).scanPend = ((held.inp.scanDone && held.irqArmed) || t.scanPend) :=
  rfl
@[simp] theorem State.endCycle_irqArmed (held t : State) : (held.endCycle t).irqArmed = t.irqArmed :=
  rfl
@[simp] theorem State.endCycle_updActive (held t : State) : (held.endCycle t).updActive = t.updActive :=
  rfl
@[simp] theorem State.endCycle_updCh (held t : State) : (held.endCycle t).updCh = t.updCh :=
  rfl
@[simp] theorem State.endCycle_resp (held t : State) : (held.endCycle t).resp = t.resp :=
  rfl
@[simp] theorem State.endCycle_scanAck (held t : State) : (held.endCycle t).scanAck = t.scanAck :=
  rfl
@[simp] theorem State.endCycle_tape (held t : State) : (held.endCycle t).tape = held.tape.tail :=
  rfl
@[simp] theorem State.endCycle_freeCtr (held t : State) : (held.endCycle t).freeCtr = t.freeCtr :=
  rfl

/-! ## The inputs of a cycle -/

@[simp] theorem State.beginCycle_inp (s : State) : s.beginCycle.inp = s.inp := rfl

@[simp] theorem State.withInp_inp (s : State) (i : Inputs) : (s.withInp i).inp = i := rfl

@[simp] theorem State.resetWith_cfg (cfg : AdmittedParams) (raw : Vector Sample 5) (k : Nat) (tape : List Inputs) :
    (State.resetWith cfg raw k tape).cfg = cfg := rfl

@[simp] theorem State.takeReset_cfg (s : State) : s.takeReset.cfg = s.cfg := rfl

@[simp] theorem State.takeReset_tape (s : State) : s.takeReset.tape = s.tape.tail := rfl

end Sys2Proof.Machine
end

