-- ==== Sys2Proof/Laws/Memory.lean ====
section
/-! SUPPORT. Reading after writing in the five spaces (`20_memory.md` R60, R65), and what a clock edge
does to them. -/

namespace Sys2Proof.Machine

@[simp] theorem State.memRead_raw (s : State) (c : Fin 5) : s.memRead (.raw c) = s.raw[c].setWidth 32 := rfl
@[simp] theorem State.memRead_ring (s : State) (c : Fin 5) (k : Fin 32) :
    s.memRead (.ring c k) = s.ring[c][k].setWidth 32 := rfl
@[simp] theorem State.memRead_acc (s : State) (c : Fin 5) : s.memRead (.acc c) = s.acc[c] := rfl
@[simp] theorem State.memRead_filt (s : State) (c : Fin 5) : s.memRead (.filt c) = s.filt[c].setWidth 32 := rfl
@[simp] theorem State.memRead_palette (s : State) (i : Fin 8) :
    s.memRead (.palette i) = s.cfg.palette[i].setWidth 32 := rfl

/-- What a write to a word leaves there: the value cut to the space's width, and a read-only word as
it was. -/
def State.storedIn (s : State) : MemAddr → Word → Word
  | .raw _, v => (v.setWidth 16).setWidth 32
  | .ring _ _, v => (v.setWidth 16).setWidth 32
  | .acc _, v => v
  | .filt _, v => (v.setWidth 16).setWidth 32
  | .palette i, _ => s.memRead (.palette i)

/-- A word of `Vector.set`, by `Fin` index. -/
theorem getElem_set_fin {α : Type} {n : Nat} (v : Vector α n) (i j : Fin n) (x : α) :
    (v.set i x)[j] = if i = j then x else v[j] := by
  simp [Vector.getElem_set, Fin.ext_iff]

/-- Reading the word just written gives the value stored there. -/
theorem State.memRead_memWrite_same (s : State) (a : MemAddr) (v : Word) :
    (s.memWrite a v).memRead a = s.storedIn a v := by
  cases a <;> simp [State.memWrite, State.storedIn]

/-- A write leaves every other word alone. -/
theorem State.memRead_memWrite_other (s : State) (a b : MemAddr) (v : Word) (h : b ≠ a) :
    (s.memWrite a v).memRead b = s.memRead b := by
  cases a <;> cases b <;>
    simp_all [State.memWrite, Vector.getElem_set, Fin.ext_iff]
  case ring.ring c k c' k' =>
    by_cases hc : c.val = c'.val
    · have : c = c' := Fin.ext hc
      subst this
      have hk : k.val ≠ k'.val := fun hk => h rfl hk.symm
      simp [hk]
    · simp [hc]
  case acc.acc c c' => exact fun h' => absurd h'.symm h
  all_goals (rw [if_neg]; omega)

/-- A write changes no register outside the spaces. -/
theorem State.memWrite_regs (s : State) (a : MemAddr) (v : Word) :
    s.memWrite a v = { s with
      raw := (s.memWrite a v).raw, ring := (s.memWrite a v).ring
      acc := (s.memWrite a v).acc, filt := (s.memWrite a v).filt } := by
  cases a <;> rfl

/-- The clock edge writes no space but `RAW`. -/
theorem State.memRead_endCycle (held t : State) (a : MemAddr) (h : ∀ c, a ≠ .raw c) :
    (held.endCycle t).memRead a = t.memRead a := by
  cases a with
  | raw c => exact absurd rfl (h c)
  | _ => rfl

/-- The raw write port writes the one word it names. -/
theorem rawWrite_getElem (raw : Vector Sample 5) (i : Inputs) (c : Fin 5) :
    (rawWrite raw i)[c] = if i.rawWe = true ∧ i.rawCh.toNat = c.val then i.rawData else raw[c] := by
  unfold rawWrite
  split
  · split
    · simp [Vector.getElem_set, *]
    · have := c.isLt
      have hne : i.rawCh.toNat ≠ c.val := by omega
      simp [hne]
  · simp [*]

end Sys2Proof.Machine
end

