-- ==== Sys2Proof/Laws/Ops.lean ====
section
/-! SUPPORT. What each shared operation can do, said once: the goal comparison against `eff`, the
primitive wait, the steps of a frame, the turn of a cycle. -/

namespace Sys2Proof.Machine

/-! ## The goal comparison -/

/-- Greater-or-equal on the signed difference is smallness of the unsigned one
(`40_cycle_timer.md` R105, "Equivalently"). -/
theorem reachedAt_iff (cnt goal : Word) : reachedAt cnt goal = true ↔ (cnt - goal).toNat < 2 ^ 31 := by
  unfold reachedAt
  rw [decide_eq_true_iff, BitVec.toInt_eq_toNat_cond]
  have := (cnt - goal).isLt
  split <;> omega

/-- The comparison `e` ticks after the goal `c0 +32 n` was taken (`40_cycle_timer.md` R106). -/
theorem reachedAt_after (c0 n : Word) (e : Nat) :
    reachedAt (c0 + BitVec.ofNat 32 e) (c0 + n) = true ↔ (e + (2 ^ 32 - n.toNat)) % 2 ^ 32 < 2 ^ 31 := by
  rw [reachedAt_iff]
  have h0 := c0.isLt
  have hn := n.isLt
  simp only [BitVec.toNat_sub, BitVec.toNat_add, BitVec.toNat_ofNat]
  constructor <;> intro h <;> omega

/-- Before `eff(n)` ticks the goal is not reached (`00_scope.md` R9). -/
theorem reachedAt_before_eff (c0 n : Word) (e : Nat) (h : e < eff n) :
    reachedAt (c0 + BitVec.ofNat 32 e) (c0 + n) = false := by
  rw [← Bool.not_eq_true, reachedAt_after]
  have hn := n.isLt
  unfold eff at h
  split at h <;> omega

/-- At `eff(n)` ticks it is (`00_scope.md` R9). -/
theorem reachedAt_at_eff (c0 n : Word) : reachedAt (c0 + BitVec.ofNat 32 (eff n)) (c0 + n) = true := by
  rw [reachedAt_after]
  have hn := n.isLt
  unfold eff
  split <;> omega

/-- A wait is satisfied in the cycle it begins exactly when its effective length is 0
(`40_cycle_timer.md` R108). -/
theorem reachedAt_begin_iff (c0 n : Word) : reachedAt c0 (c0 + n) = true ↔ eff n = 0 := by
  have h := reachedAt_after c0 n 0
  simp only [BitVec.add_zero, Nat.zero_add] at h
  rw [h]
  have hn := n.isLt
  unfold eff
  constructor
  · intro h'; split <;> omega
  · intro h'; split at h' <;> omega

/-! ## The primitive wait -/

/-- A wait that leaves its cycle: the realised length is not 0 (`41_color_transmitter.md` R137). -/
theorem State.beginWait_of_pos (s : State) (t : Word) (h : 1 ≤ phaseLen s.cfg.toParams t) :
    s.beginWait t =
      ({ s with
          goal := s.cnt + t
          waiting := decide (eff t ≠ 0)
          ovhc := if eff t = 0 then s.cfg.ovh - 1 else s.ovhc }, false) := by
  unfold State.beginWait
  by_cases h0 : eff t = 0
  · have hov : s.cfg.ovh ≠ 0 := by
      intro hz
      simp [phaseLen, h0, hz] at h
    simp only [(reachedAt_begin_iff s.cnt t).2 h0, if_true, if_neg hov, h0, ne_eq, not_true, decide_false]
  · have : reachedAt s.cnt (s.cnt + t) = false := by
      rw [← Bool.not_eq_true, reachedAt_begin_iff]; exact h0
    simp [this, h0]

/-- A wait of realised length 0: the step that follows it falls in the same cycle
(`41_color_transmitter.md` R127). -/
theorem State.beginWait_of_zero (s : State) (t : Word) (h : phaseLen s.cfg.toParams t = 0) :
    s.beginWait t = ({ s with goal := s.cnt + t, waiting := false }, true) := by
  unfold State.beginWait
  have h0 : eff t = 0 := by unfold phaseLen at h; omega
  have hov : s.cfg.ovh = 0 := by
    apply BitVec.eq_of_toNat_eq
    simp only [phaseLen] at h
    simp; omega
  simp [(reachedAt_begin_iff s.cnt t).2 h0, hov]

/-- A wait of a frame is over: the comparison holds and there is no overhead, or the overhead has
run out (`41_color_transmitter.md` R137). -/
abbrev State.WaitOver (s : State) : Prop :=
  (s.waiting = true ∧ reachedAt s.cnt s.goal = true ∧ s.cfg.ovh = 0) ∨ (s.waiting = false ∧ s.ovhc = 0)

theorem State.due_of_over (s : State) (h : s.WaitOver) : s.due = (s, true) := by
  unfold State.due
  rcases h with ⟨hw, hr, ho⟩ | ⟨hw, ho⟩
  · simp [hw, hr, ho]
  · simp [hw, ho]

theorem State.due_of_not_over (s : State) (h : ¬ s.WaitOver) :
    s.due = ({ s with
      waiting := s.waiting && !reachedAt s.cnt s.goal
      ovhc := if s.waiting then (if reachedAt s.cnt s.goal then s.cfg.ovh - 1 else s.ovhc)
        else s.ovhc - 1 }, false) := by
  unfold State.due
  unfold State.WaitOver at h
  obtain ⟨_, _, _, _, _, _, _, _, _, _, _, _, _, _, _, waiting, _, _, _, _, _, _, _, _, _, _, _, _, _, _, _⟩ := s
  cases waiting with
  | true =>
    cases hr : reachedAt _ _ with
    | true => simp_all
    | false => simp_all
  | false => simp_all

/-! ## The steps of a frame -/

theorem State.txRise_of_pos (s : State) (h : 1 ≤ phaseLen s.cfg.toParams (s.highEntry s.sendBit)) :
    s.txRise = ({ s with
      line := true, seq := .txHigh
      goal := s.cnt + s.highEntry s.sendBit
      waiting := decide (eff (s.highEntry s.sendBit) ≠ 0)
      ovhc := if eff (s.highEntry s.sendBit) = 0 then s.cfg.ovh - 1 else s.ovhc }, false) := by
  exact State.beginWait_of_pos _ _ h

theorem State.txFall_of_pos (s : State) (h : 1 ≤ phaseLen s.cfg.toParams (s.lowEntry s.sendBit)) :
    s.txFall = ({ s with
      line := false, seq := .txLow
      goal := s.cnt + s.lowEntry s.sendBit
      waiting := decide (eff (s.lowEntry s.sendBit) ≠ 0)
      ovhc := if eff (s.lowEntry s.sendBit) = 0 then s.cfg.ovh - 1 else s.ovhc }, false) := by
  exact State.beginWait_of_pos _ _ h

theorem State.txExit_of_pos (s : State) (h : 1 ≤ phaseLen s.cfg.toParams s.trst) :
    s.txExit = ({ s with
      irqMask := false, seq := .txGap
      goal := s.cnt + s.trst
      waiting := decide (eff s.trst ≠ 0)
      ovhc := if eff s.trst = 0 then s.cfg.ovh - 1 else s.ovhc }, false) := by
  exact State.beginWait_of_pos _ _ h

theorem State.txRiseOn_of_pos (s : State) (h : 1 ≤ phaseLen s.cfg.toParams (s.highEntry s.sendBit)) :
    s.txRiseOn = s.txRise.1 := by
  simp [State.txRiseOn, State.txRise_of_pos s h]

theorem State.txFallOn_of_pos (s : State) (h : 1 ≤ phaseLen s.cfg.toParams (s.lowEntry s.sendBit)) :
    s.txFallOn = s.txFall.1 := by
  simp [State.txFallOn, State.txFall_of_pos s h]

theorem State.txNext_of_last (s : State) (h : s.bitcnt = 1) : s.txNext = s.txShift.txFinish := by
  simp [State.txNext, State.txNextWithin, h]

theorem State.txNext_of_more (s : State) (h : s.bitcnt ≠ 1)
    (hp : 1 ≤ phaseLen s.cfg.toParams (s.txShift.highEntry s.txShift.sendBit)) :
    s.txNext = s.txShift.txRise.1 := by
  have : s.txShift.txRise.2 = false := by rw [State.txRise_of_pos s.txShift hp]
  unfold State.txNext
  rw [State.txNextWithin, if_neg h, this]
  simp

/-! ## The turn of a cycle -/

/-- The four turns, each with exactly the conditions it stands for (`60_exceptions.md` R169, R170). -/
theorem State.turn_cases (s : State) :
    (s.turn = .reset ∧ s.inp.rst = true) ∨
    (s.turn = .handler ∧ s.inp.rst = false ∧ s.inp.updGo = true ∧ s.foregroundRuns = false ∧
      (s.updActive = true ∨ s.eligible = true)) ∨
    (s.turn = .foreground ∧ s.inp.rst = false ∧ s.foregroundRuns = true ∧ s.seq ≠ .idle) ∨
    (s.turn = .none ∧ s.inp.rst = false ∧
      ((s.updActive = true ∧ s.inp.updGo = false) ∨ (s.foregroundRuns = true ∧ s.seq = .idle))) := by
  unfold State.turn State.foregroundRuns State.updStarts
  cases s.inp.rst <;> cases s.updActive <;> cases s.inp.updGo <;> cases s.eligible <;>
    by_cases hs : s.seq = .idle <;> simp [hs]

/-- The foreground's turn, from its conditions. -/
theorem State.turn_foreground (s : State) (hr : s.inp.rst = false) (hf : s.foregroundRuns = true)
    (hs : s.seq ≠ .idle) : s.turn = .foreground := by
  rcases s.turn_cases with h | h | h | h
  · rw [hr] at h; cases h.2
  · rw [hf] at h; cases h.2.2.2.1
  · exact h.1
  · rcases h.2.2 with ⟨ha, _⟩ | h'
    · simp [State.foregroundRuns, ha] at hf
    · exact absurd h'.2 hs

end Sys2Proof.Machine
end

