-- ==== Sys2Proof/Laws/Frame.lean ====
section
/-! SUPPORT. What a meaning leaves unchanged: one lemma for the transmitter's steps, whatever the
table and however many of them fall in one cycle, and one for every other meaning. -/

namespace Sys2Proof.Machine

/-- `t` differs from `s` in the sequencer's own registers and the response alone. -/
def State.FrameOnly (s t : State) : Prop :=
  t = { s with
    goal := t.goal, shift := t.shift, bitcnt := t.bitcnt, line := t.line, irqMask := t.irqMask
    seq := t.seq, waiting := t.waiting, ovhc := t.ovhc, resp := t.resp }

theorem State.FrameOnly.refl (s : State) : s.FrameOnly s := rfl

theorem State.FrameOnly.trans {s t u : State} (h1 : s.FrameOnly t) (h2 : t.FrameOnly u) :
    s.FrameOnly u := by
  unfold State.FrameOnly at *
  rw [h2, h1]

theorem State.beginWait_frameOnly (s : State) (t : Word) : s.FrameOnly (s.beginWait t).1 := by
  unfold State.beginWait
  dsimp only
  split
  · split <;> rfl
  · rfl

theorem State.due_frameOnly (s : State) : s.FrameOnly s.due.1 := by
  unfold State.due
  split
  · split
    · split <;> rfl
    · rfl
  · split <;> rfl

theorem State.txEnterStep_frameOnly (s : State) (color : Color) : s.FrameOnly (s.txEnterStep color) := rfl

theorem State.txRise_frameOnly (s : State) : s.FrameOnly s.txRise.1 :=
  State.FrameOnly.trans (t := { s with line := true, seq := .txHigh }) rfl (State.beginWait_frameOnly _ _)

theorem State.txFall_frameOnly (s : State) : s.FrameOnly s.txFall.1 :=
  State.FrameOnly.trans (t := { s with line := false, seq := .txLow }) rfl (State.beginWait_frameOnly _ _)

theorem State.txShift_frameOnly (s : State) : s.FrameOnly s.txShift := rfl

theorem State.txExit_frameOnly (s : State) : s.FrameOnly s.txExit.1 :=
  State.FrameOnly.trans (t := { s with irqMask := false, seq := .txGap }) rfl (State.beginWait_frameOnly _ _)

theorem State.txDone_frameOnly (s : State) : s.FrameOnly s.txDone := rfl

theorem State.txFinish_frameOnly (s : State) : s.FrameOnly s.txFinish := by
  unfold State.txFinish
  split
  · exact s.txExit_frameOnly.trans (State.txDone_frameOnly _)
  · exact s.txExit_frameOnly

theorem State.txNextWithin_frameOnly (n : Nat) (s : State) : s.FrameOnly (s.txNextWithin n) := by
  induction n generalizing s with
  | zero => rfl
  | succ n ih =>
    have hr : s.FrameOnly s.txShift.txRise.1 := s.txShift_frameOnly.trans (State.txRise_frameOnly _)
    have hf := hr.trans (State.txFall_frameOnly _)
    rw [State.txNextWithin]
    split
    · exact s.txShift_frameOnly.trans (State.txFinish_frameOnly _)
    · split
      · split
        · exact hf.trans (ih _)
        · exact hf
      · exact hr

theorem State.txFallOn_frameOnly (s : State) : s.FrameOnly s.txFallOn := by
  unfold State.txFallOn
  split
  · exact s.txFall_frameOnly.trans (State.txNextWithin_frameOnly _ _)
  · exact s.txFall_frameOnly

theorem State.txRiseOn_frameOnly (s : State) : s.FrameOnly s.txRiseOn := by
  unfold State.txRiseOn
  split
  · exact s.txRise_frameOnly.trans (State.txFallOn_frameOnly _)
  · exact s.txRise_frameOnly

/-- One cycle of the transmitter writes the sequencer's own registers and the response alone. -/
theorem State.txStep_frameOnly {s t : State} {color : Color} (h : s.txStep color = .next t) :
    s.FrameOnly t := by
  unfold State.txStep at h
  split at h
  · cases h; exact s.txEnterStep_frameOnly color
  · split at h
    · split at h
      · cases h; exact s.due_frameOnly.trans (State.txFallOn_frameOnly _)
      · cases h; exact s.due_frameOnly
    · cases h; exact s.txRiseOn_frameOnly
  · split at h
    · cases h; exact s.due_frameOnly.trans (State.txNextWithin_frameOnly _ _)
    · cases h; exact s.due_frameOnly
  · split at h
    · cases h; exact s.due_frameOnly.trans (State.txDone_frameOnly _)
    · cases h; exact s.due_frameOnly
  · cases h
  · cases h
  · cases h

/-- One cycle of `SLEEP` writes `GOAL`, `WAITING`, `SEQ` and the response alone. -/
theorem State.sleepStep_frame (s : State) (n : Word) :
    s.sleepStep n = { s with
      goal := (s.sleepStep n).goal, waiting := (s.sleepStep n).waiting
      seq := (s.sleepStep n).seq, resp := (s.sleepStep n).resp } := by
  unfold State.sleepStep
  split
  · split <;> rfl
  · split <;> rfl

/-- A channel step writes one word of each of `ACC`, `RING` and `FILT`, and `UPD_CH`. -/
theorem State.channelStep_frame (s : State) (c : Fin 5) :
    s.channelStep c = { s with
      acc := (s.channelStep c).acc, ring := (s.channelStep c).ring, filt := (s.channelStep c).filt
      updCh := s.updCh + 1 } := rfl

/-- What a channel step leaves in each space (`42_acquisition_filter.md` R143). -/
theorem State.channelStep_spaces (s : State) (c : Fin 5) :
    (s.channelStep c).acc = s.acc.set c (s.acc[c] - s.memRead (.ring c s.slot) + s.memRead (.raw c)) ∧
    (s.channelStep c).ring = s.ring.set c (s.ring[c].set s.slot s.raw[c]) ∧
    (s.channelStep c).filt = s.filt.set c
      (((s.acc[c] - s.memRead (.ring c s.slot) + s.memRead (.raw c)).sshiftRight 5).setWidth 16) := by
  refine ⟨rfl, ?_, rfl⟩
  simp [State.channelStep, State.memWrite, State.memRead]

/-! The registers a channel step leaves alone. -/

@[simp] theorem State.channelStep_cfg (s : State) (c : Fin 5) : (s.channelStep c).cfg = s.cfg := rfl
@[simp] theorem State.channelStep_cnt (s : State) (c : Fin 5) : (s.channelStep c).cnt = s.cnt := rfl
@[simp] theorem State.channelStep_cntEn (s : State) (c : Fin 5) : (s.channelStep c).cntEn = s.cntEn := rfl
@[simp] theorem State.channelStep_fHz (s : State) (c : Fin 5) : (s.channelStep c).fHz = s.fHz := rfl
@[simp] theorem State.channelStep_t0h (s : State) (c : Fin 5) : (s.channelStep c).t0h = s.t0h := rfl
@[simp] theorem State.channelStep_t0l (s : State) (c : Fin 5) : (s.channelStep c).t0l = s.t0l := rfl
@[simp] theorem State.channelStep_t1h (s : State) (c : Fin 5) : (s.channelStep c).t1h = s.t1h := rfl
@[simp] theorem State.channelStep_t1l (s : State) (c : Fin 5) : (s.channelStep c).t1l = s.t1l := rfl
@[simp] theorem State.channelStep_trst (s : State) (c : Fin 5) : (s.channelStep c).trst = s.trst := rfl
@[simp] theorem State.channelStep_goal (s : State) (c : Fin 5) : (s.channelStep c).goal = s.goal := rfl
@[simp] theorem State.channelStep_shift (s : State) (c : Fin 5) : (s.channelStep c).shift = s.shift := rfl
@[simp] theorem State.channelStep_bitcnt (s : State) (c : Fin 5) : (s.channelStep c).bitcnt = s.bitcnt := rfl
@[simp] theorem State.channelStep_line (s : State) (c : Fin 5) : (s.channelStep c).line = s.line := rfl
@[simp] theorem State.channelStep_irqMask (s : State) (c : Fin 5) : (s.channelStep c).irqMask = s.irqMask := rfl
@[simp] theorem State.channelStep_seq (s : State) (c : Fin 5) : (s.channelStep c).seq = s.seq := rfl
@[simp] theorem State.channelStep_waiting (s : State) (c : Fin 5) : (s.channelStep c).waiting = s.waiting := rfl
@[simp] theorem State.channelStep_ovhc (s : State) (c : Fin 5) : (s.channelStep c).ovhc = s.ovhc := rfl
@[simp] theorem State.channelStep_cmdreg (s : State) (c : Fin 5) : (s.channelStep c).cmdreg = s.cmdreg := rfl
@[simp] theorem State.channelStep_raw (s : State) (c : Fin 5) : (s.channelStep c).raw = s.raw := rfl
@[simp] theorem State.channelStep_cursor (s : State) (c : Fin 5) : (s.channelStep c).cursor = s.cursor := rfl
@[simp] theorem State.channelStep_scanPend (s : State) (c : Fin 5) : (s.channelStep c).scanPend = s.scanPend := rfl
@[simp] theorem State.channelStep_irqArmed (s : State) (c : Fin 5) : (s.channelStep c).irqArmed = s.irqArmed := rfl
@[simp] theorem State.channelStep_updActive (s : State) (c : Fin 5) : (s.channelStep c).updActive = s.updActive := rfl
@[simp] theorem State.channelStep_resp (s : State) (c : Fin 5) : (s.channelStep c).resp = s.resp := rfl
@[simp] theorem State.channelStep_scanAck (s : State) (c : Fin 5) : (s.channelStep c).scanAck = s.scanAck := rfl
@[simp] theorem State.channelStep_tape (s : State) (c : Fin 5) : (s.channelStep c).tape = s.tape := rfl
@[simp] theorem State.channelStep_freeCtr (s : State) (c : Fin 5) : (s.channelStep c).freeCtr = s.freeCtr := rfl
@[simp] theorem State.channelStep_updCh (s : State) (c : Fin 5) : (s.channelStep c).updCh = s.updCh + 1 := rfl

/-- The inversion of `UPDATE`: its start step, a channel step, its cursor step, or nothing
(`60_exceptions.md` R180). -/
theorem execUpdate_cases {s t : State} (h : execUpdate s = .next t) :
    (s.updActive = true ∧ ∃ hc : s.updCh.toNat < 5, t = s.channelStep ⟨s.updCh.toNat, hc⟩) ∨
    (s.updActive = true ∧ s.updCh = 5 ∧ t = s.leaveUpdate) ∨
    (s.updActive = false ∧ s.eligible = true ∧ t = s.enterUpdate) ∨
    (s.updActive = false ∧ s.eligible = false ∧ t = s) := by
  unfold execUpdate at h
  split at h
  · rename_i ha
    split at h
    · rename_i hc
      exact .inl ⟨ha, hc, (Host.Outcome.next.inj h).symm⟩
    · split at h
      · rename_i h5
        exact .inr (.inl ⟨ha, h5, (Host.Outcome.next.inj h).symm⟩)
      · cases h
  · rename_i ha
    have ha := Bool.eq_false_of_not_eq_true ha
    split at h
    · rename_i he
      exact .inr (.inr (.inl ⟨ha, he, (Host.Outcome.next.inj h).symm⟩))
    · rename_i he
      exact .inr (.inr (.inr ⟨ha, Bool.eq_false_of_not_eq_true he, (Host.Outcome.next.inj h).symm⟩))

/-- A step of `UPDATE` writes the filter and the handler's registers alone. -/
theorem execUpdate_frame {s t : State} (h : execUpdate s = .next t) :
    t = { s with
      acc := t.acc, ring := t.ring, filt := t.filt, cursor := t.cursor, scanPend := t.scanPend
      updActive := t.updActive, updCh := t.updCh, scanAck := t.scanAck } := by
  unfold execUpdate at h
  split at h
  · split at h
    · cases h; rfl
    · split at h
      · cases h; rfl
      · cases h
  · split at h <;> cases h <;> rfl

/-- No meaning writes the parameters, the counter, the command in execution, the raw samples or the
inputs to come. -/
theorem exec_frame {s t : State} {i : Instr} (h : exec i s = .next t) :
    t = { t with cfg := s.cfg, cnt := s.cnt, cmdreg := s.cmdreg, raw := s.raw, tape := s.tape } := by
  cases i with
  | cten => cases h; rfl
  | goalc n => cases h; rfl
  | goalms ms => cases h; rfl
  | reached goal => cases h; rfl
  | sleep n => cases h; rw [State.sleepStep_frame]
  | txinit f => cases h; rfl
  | tx color =>
    have h' := State.txStep_frameOnly (h : s.txStep color = .next t)
    unfold State.FrameOnly at h'
    rw [h']
  | txidx idx =>
    have h' := State.txStep_frameOnly (h : s.txStep _ = .next t)
    unfold State.FrameOnly at h'
    rw [h']
  | acqinit => cases h; rfl
  | acqrd ch =>
    simp only [exec, execAcqrd] at h
    split at h <;> cases h <;> rfl
  | update => rw [execUpdate_frame (h : execUpdate s = .next t)]

/-- A command writes none of the handler's own registers. -/
theorem exec_keeps_handler {s t : State} {i : Instr} (h : exec i s = .next t) (hu : i ≠ .update) :
    t = { t with updActive := s.updActive, updCh := s.updCh, scanAck := s.scanAck } := by
  cases i with
  | update => exact absurd rfl hu
  | sleep n => cases h; rw [State.sleepStep_frame]
  | tx color => rw [State.txStep_frameOnly (h : s.txStep color = .next t)]
  | txidx idx => rw [State.txStep_frameOnly (h : s.txStep _ = .next t)]
  | acqrd ch =>
    simp only [exec, execAcqrd] at h
    split at h <;> cases h <;> rfl
  | _ => cases h; rfl

/-- A command other than `ACQINIT` writes nothing of the filter and no bit of the interrupt logic. -/
theorem exec_keeps_filter {s t : State} {i : Instr} (h : exec i s = .next t) (hu : i ≠ .update)
    (ha : i ≠ .acqinit) :
    t = { t with
      ring := s.ring, acc := s.acc, filt := s.filt, cursor := s.cursor
      scanPend := s.scanPend, irqArmed := s.irqArmed } := by
  cases i with
  | update => exact absurd rfl hu
  | acqinit => exact absurd rfl ha
  | sleep n => cases h; rw [State.sleepStep_frame]
  | tx color => rw [State.txStep_frameOnly (h : s.txStep color = .next t)]
  | txidx idx => rw [State.txStep_frameOnly (h : s.txStep _ = .next t)]
  | acqrd ch =>
    simp only [exec, execAcqrd] at h
    split at h <;> cases h <;> rfl
  | _ => cases h; rfl

/-- An operation other than `TXINIT` writes neither `F_HZ` nor the table. -/
theorem exec_keeps_table {s t : State} {i : Instr} (h : exec i s = .next t) (ht : ∀ f, i ≠ .txinit f) :
    t = { t with
      fHz := s.fHz, t0h := s.t0h, t0l := s.t0l, t1h := s.t1h, t1l := s.t1l, trst := s.trst } := by
  cases i with
  | txinit f => exact absurd rfl (ht f)
  | update => rw [execUpdate_frame (h : execUpdate s = .next t)]
  | sleep n => cases h; rw [State.sleepStep_frame]
  | tx color => rw [State.txStep_frameOnly (h : s.txStep color = .next t)]
  | txidx idx => rw [State.txStep_frameOnly (h : s.txStep _ = .next t)]
  | acqrd ch =>
    simp only [exec, execAcqrd] at h
    split at h <;> cases h <;> rfl
  | _ => cases h; rfl

/-- An operation other than `CTEN` leaves `CNT_EN` as it was. -/
theorem exec_keeps_cntEn {s t : State} {i : Instr} (h : exec i s = .next t) (hc : i ≠ .cten) :
    t.cntEn = s.cntEn := by
  cases i with
  | cten => exact absurd rfl hc
  | update => rw [execUpdate_frame (h : execUpdate s = .next t)]
  | sleep n => cases h; rw [State.sleepStep_frame]
  | tx color => rw [State.txStep_frameOnly (h : s.txStep color = .next t)]
  | txidx idx => rw [State.txStep_frameOnly (h : s.txStep _ = .next t)]
  | acqrd ch =>
    simp only [exec, execAcqrd] at h
    split at h <;> cases h <;> rfl
  | _ => cases h; rfl

/-- An operation other than `TX` and `TXIDX` leaves the frame's registers as they were. -/
theorem exec_keeps_frameRegs {s t : State} {i : Instr} (h : exec i s = .next t)
    (htx : ∀ color, i ≠ .tx color) (hti : ∀ idx, i ≠ .txidx idx) :
    t = { t with
      line := s.line, irqMask := s.irqMask, shift := s.shift, bitcnt := s.bitcnt, ovhc := s.ovhc } := by
  cases i with
  | tx color => exact absurd rfl (htx color)
  | txidx idx => exact absurd rfl (hti idx)
  | update => rw [execUpdate_frame (h : execUpdate s = .next t)]
  | sleep n => cases h; rw [State.sleepStep_frame]
  | acqrd ch =>
    simp only [exec, execAcqrd] at h
    split at h <;> cases h <;> rfl
  | _ => cases h; rfl

/-- `CMDREG` never holds the event operation. -/
theorem State.fetch_ne_update (s : State) : s.fetch ≠ .ok .update := by
  intro h
  simp only [State.fetch, decode, decodeCmd] at h
  repeat' split at h
  all_goals cases h

end Sys2Proof.Machine
end

