-- ==== Sys2Proof/Laws/PerInstr.lean ====
section
/-! SUPPORT. Facts about every operation as code, one lemma per constructor. -/

namespace Sys2Proof.Laws

/-! ## The opcode of an operation's code (`30_encoding.md` R82, R84) -/

/-- The bits of `{op, arg}`. -/
theorem getLsbD_cmdWord (op : Opcode) (arg : Word) (i : Nat) :
    (cmdWord op arg).getLsbD i = if i < 32 then arg.getLsbD i else op.getLsbD (i - 32) :=
  (BitVec.getLsbD_append (x := op) (y := arg) (i := i)).trans (by split <;> simp_all)

/-- The `op` field of `{op, arg}` is `op`. -/
theorem opField_cmdWord (op : Opcode) (arg : Word) : opField (cmdWord op arg) = op := by
  apply BitVec.eq_of_getLsbD_eq
  intro i hi
  simp [opField, getLsbD_cmdWord, hi]

/-- The `arg` field of `{op, arg}` is `arg`. -/
theorem argField_cmdWord (op : Opcode) (arg : Word) : argField (cmdWord op arg) = arg := by
  apply BitVec.eq_of_getLsbD_eq
  intro i hi
  simp [argField, getLsbD_cmdWord, hi]

/-- A word is `{op, arg}` of its own fields. -/
theorem cmdWord_fields (w : CmdWord) : cmdWord (opField w) (argField w) = w := by
  apply BitVec.eq_of_getLsbD_eq
  intro i hi
  rw [getLsbD_cmdWord]
  split
  · simp [argField, *]
  · have h1 : i - 32 < 8 := by omega
    have h2 : 32 + (i - 32) = i := by omega
    simp [opField, h1, h2]

/-- A code is the event, or a command word with one of the ten legal opcodes. -/
def codeLegal : Code → Prop
  | .cmd w => opField w ∈ legalOpcodes
  | .evt e => e = 1#1

/-- The code of an operation is a legal one. -/
def EncodeLegal.Statement (i : Instr) : Prop := codeLegal (encode i)

theorem EncodeLegal.cten : EncodeLegal.Statement .cten := by
  simp [EncodeLegal.Statement, encode, codeLegal, opField_cmdWord, legalOpcodes]

theorem EncodeLegal.goalc (n : Word) : EncodeLegal.Statement (.goalc n) := by
  simp [EncodeLegal.Statement, encode, codeLegal, opField_cmdWord, legalOpcodes]

theorem EncodeLegal.goalms (ms : Word) : EncodeLegal.Statement (.goalms ms) := by
  simp [EncodeLegal.Statement, encode, codeLegal, opField_cmdWord, legalOpcodes]

theorem EncodeLegal.reached (goal : Word) : EncodeLegal.Statement (.reached goal) := by
  simp [EncodeLegal.Statement, encode, codeLegal, opField_cmdWord, legalOpcodes]

theorem EncodeLegal.sleep (n : Word) : EncodeLegal.Statement (.sleep n) := by
  simp [EncodeLegal.Statement, encode, codeLegal, opField_cmdWord, legalOpcodes]

theorem EncodeLegal.txinit (f : Word) : EncodeLegal.Statement (.txinit f) := by
  simp [EncodeLegal.Statement, encode, codeLegal, opField_cmdWord, legalOpcodes]

theorem EncodeLegal.tx (color : Color) : EncodeLegal.Statement (.tx color) := by
  simp [EncodeLegal.Statement, encode, codeLegal, opField_cmdWord, legalOpcodes]

theorem EncodeLegal.txidx (idx : BitVec 3) : EncodeLegal.Statement (.txidx idx) := by
  simp [EncodeLegal.Statement, encode, codeLegal, opField_cmdWord, legalOpcodes]

theorem EncodeLegal.acqinit : EncodeLegal.Statement .acqinit := by
  simp [EncodeLegal.Statement, encode, codeLegal, opField_cmdWord, legalOpcodes]

theorem EncodeLegal.acqrd (ch : Word) : EncodeLegal.Statement (.acqrd ch) := by
  simp [EncodeLegal.Statement, encode, codeLegal, opField_cmdWord, legalOpcodes]

theorem EncodeLegal.update : EncodeLegal.Statement .update := by
  simp [EncodeLegal.Statement, encode, codeLegal]

end Sys2Proof.Laws
end

