-- ==== Sys2Proof/Laws/Step.lean ====
section
/-! SUPPORT. What one clock cycle can do, said once, and how runs compose. -/

namespace Sys2Proof.Machine

/-! ## One equation per turn -/

theorem step_of_reset (s : State) (h : s.turn = .reset) : step s = .next s.takeReset := by
  simp [step, h]

theorem step_of_none (s : State) (h : s.turn = .none) : step s = .next (s.endCycle s.beginCycle) := by
  simp [step, h]

theorem step_of_handler (s : State) (h : s.turn = .handler) :
    step s = s.finish (exec .update s.beginCycle) := by
  simp [step, h]

theorem step_of_command (s : State) (i : Instr) (h : s.turn = .foreground) (hf : s.fetch = .ok i) :
    step s = s.finish (exec i s.beginCycle) := by
  simp [step, h, hf]

theorem step_of_illegal (s : State) (r : Reject) (h : s.turn = .foreground) (hf : s.fetch = .error r) :
    step s = .next (s.endCycle (s.beginCycle.raiseFault .illegalCommand)) := by
  simp [step, h, hf]

/-- A clock edge answers a next state exactly for the next state of the agent's step. -/
theorem State.finish_next_iff (held : State) (o : Host.Outcome State Fault Refusal) (t : State) :
    held.finish o = .next t ↔ ∃ u, o = .next u ∧ t = held.endCycle u := by
  cases o <;> simp [State.finish, eq_comm]

/-- The inversion of `step`: the five ways a cycle can end in a next state. -/
theorem step_cases {s t : State} (h : step s = .next t) :
    (s.turn = .reset ∧ t = s.takeReset) ∨
    (s.turn = .none ∧ t = s.endCycle s.beginCycle) ∨
    (s.turn = .handler ∧ ∃ u, exec .update s.beginCycle = .next u ∧ t = s.endCycle u) ∨
    (s.turn = .foreground ∧ ∃ i u, s.fetch = .ok i ∧ exec i s.beginCycle = .next u ∧ t = s.endCycle u) ∨
    (s.turn = .foreground ∧ (∃ r, s.fetch = .error r) ∧
      t = s.endCycle (s.beginCycle.raiseFault .illegalCommand)) := by
  cases hT : s.turn with
  | reset => rw [step_of_reset s hT] at h; cases h; exact .inl ⟨rfl, rfl⟩
  | none => rw [step_of_none s hT] at h; cases h; exact .inr (.inl ⟨rfl, rfl⟩)
  | handler =>
    rw [step_of_handler s hT, State.finish_next_iff] at h
    exact .inr (.inr (.inl ⟨rfl, h⟩))
  | foreground =>
    cases hF : s.fetch with
    | ok i =>
      rw [step_of_command s i hT hF, State.finish_next_iff] at h
      obtain ⟨u, hu, ht⟩ := h
      exact .inr (.inr (.inr (.inl ⟨rfl, i, u, rfl, hu, ht⟩)))
    | error r =>
      rw [step_of_illegal s r hT hF] at h
      cases h
      exact .inr (.inr (.inr (.inr ⟨rfl, ⟨r, rfl⟩, rfl⟩)))

/-- Every step consumes one cycle's inputs. -/
theorem endCycle_inpAt (held t : State) (j : Nat) : (held.endCycle t).inpAt j = held.inpAt (j + 1) := by
  simp [State.inpAt]

/-! ## Runs -/

theorem runFor_succ_of_step {s t : State} (k : Nat) (h : step s = .next t) :
    runFor (k + 1) s = runFor k t := by
  simp [runFor, h]

/-- A run of `m + n` cycles is a run of `m` and then one of `n`. -/
theorem runFor_add {s t : State} (m n : Nat) (h : runFor m s = .next t) :
    runFor (m + n) s = runFor n t := by
  induction m generalizing s with
  | zero => cases h; simp
  | succ m ih =>
    cases hs : step s with
    | next u =>
      rw [runFor_succ_of_step m hs] at h
      rw [Nat.succ_add, runFor_succ_of_step _ hs, ih h]
    | fault r => simp [runFor, hs] at h
    | refused r => simp [runFor, hs] at h

end Sys2Proof.Machine
end

