-- ==== Sys2Proof/Tests/Slice0.lean ====
section
/-! SUPPORT. Tests. The words and the expected results are those of `95_test_vectors.md` (V<n>) or
written out from `30_encoding.md`. Each statement with hypotheses has a `witness_<statement>` here: a
concrete state and operands that meet them all together. -/

namespace Sys2Proof.Tests

open Sys2Proof Sys2Proof.Machine

/-! ## Decoding -/

theorem test_decode_cten : decodeTableWord 40 0x01DEADBEEF = some .cten := by decide
theorem test_decode_goalc : decodeTableWord 40 0x02000000FA = some (.goalc 250#32) := by decide
theorem test_decode_goalms : decodeTableWord 40 0x0300000001 = some (.goalms 1#32) := by decide
theorem test_decode_reached : decodeTableWord 40 0x0480000040 = some (.reached 0x80000040#32) := by decide
theorem test_decode_sleep : decodeTableWord 40 0x0500000020 = some (.sleep 0x20#32) := by decide
theorem test_decode_txinit : decodeTableWord 40 0x0805F5E100 = some (.txinit 100000000#32) := by decide
theorem test_decode_tx : decodeTableWord 40 0x0912345678 = some (.tx 0x345678#24) := by decide
theorem test_decode_txidx : decodeTableWord 40 0x0AFFFFFFF9 = some (.txidx 1#3) := by decide
theorem test_decode_acqinit : decodeTableWord 40 0x10FFFFFFFF = some .acqinit := by decide
theorem test_decode_acqrd : decodeTableWord 40 0x1100000002 = some (.acqrd 2#32) := by decide
theorem test_decode_update : decodeTableWord 8 1 = some .update := by decide

/-- V6. -/
theorem test_decode_illegal :
    [0x0000000000, 0x0600000000, 0x0B00000001, 0x1200000000, 0xFF00000000].all
      (fun w => decide (decodeTableWord 40 w = none)) = true := by decide

/-- No event, no operation (R82). -/
theorem test_decode_no_event : decodeTableWord 8 0 = none := by decide

/-- V1, V2, V3: the assembler (R88). -/
theorem test_assemble :
    assemble { mn := .cten, operand := none } = some 0x0100000000#40 ∧
    assemble { mn := .goalc, operand := some 250 } = some 0x02000000FA#40 ∧
    assemble { mn := .tx, operand := some 0xFF } = some 0x09000000FF#40 := by decide

/-! ## Ill-formed terms, one for each check -/

theorem test_illformed_operand_missing : (AsmLine.operandPresent { mn := .goalc, operand := none }) = false := by decide
theorem test_illformed_operand_extra : (AsmLine.wellFormed { mn := .cten, operand := some 0 }) = false := by decide
theorem test_illformed_operand_large : (AsmLine.operandInRange { mn := .sleep, operand := some (2 ^ 32) }) = false := by decide
theorem test_illformed_pulse_short : (pulseInRange 299) = false := by decide
theorem test_illformed_pulses : ({ Config.reference with nomT1l := 2001 }).pulsesInRange = false := by decide
theorem test_illformed_palette :
    ({ Config.reference with palette := Vector.replicate 8 0x0000FF#24 }).blackFirst = false := by decide
theorem test_illformed_blue_black : ({ Config.reference with palette := Vector.replicate 8 0 }).blueSecond = false := by decide
theorem test_illformed_blue_white :
    ({ Config.reference with palette := Config.defaultPalette.set 1 0xFFFFFF#24 }).wellFormed = false := by decide
theorem test_illformed_gap : ({ Config.reference with nomTrst := 24999 }).gapNear = false := by decide
theorem test_illformed_params : ({ Config.reference with nomT0h := 0 }).wellFormed = false := by decide
theorem test_wellformed_reference : Config.reference.wellFormed = true := by decide

/-! ## Helpers -/

/-- The outcome is a next state with the property. -/
def nextWith (o : Host.Outcome State Fault Refusal) (p : State → Bool) : Bool :=
  match o with
  | .next t => p t
  | .fault _ => false
  | .refused _ => false

theorem exists_next {o : Host.Outcome State Fault Refusal} (h : nextWith o (fun _ => true) = true) :
    ∃ t, o = .next t := by
  cases o with
  | next t => exact ⟨t, rfl⟩
  | fault r => cases h
  | refused r => cases h

/-- The operation with table word `w` run as the next step of `s` gives the response `err`, `data`. -/
def responds (s : State) (w : Nat) (err : BitVec 2) (data : Word) : Bool :=
  nextWith (step (s.withFetchWord 40 w)) fun t => decide (t.resp = some { err := err, data := data } ∧ t.seq = .idle)

/-- A state with a running counter at `c`, a short table, samples in `RAW` and an armed interrupt. -/
def small (c : Word) : State :=
  { State.reset with
    cnt := c, cntEn := true, fHz := 168000000, t0h := 2, t0l := 3, t1h := 4, t1l := 1, trst := 5
    raw := #v[1, 2100, 4095, 0, 65535], irqArmed := true }

/-- The same with the command word `w` in execution. -/
def running (c : Word) (w : CmdWord) : State :=
  { small c with cmdreg := w, seq := startSeq (opField w) }

/-- Channel `c` as the vectors V40 to V43 give it, the update at its channel step. -/
def atChannel (c : Fin 5) (acc : Word) (slot raw : Sample) : State :=
  { small 7 with
    acc := (small 7).acc.set c acc, ring := Vector.replicate 5 (Vector.replicate 32 slot)
    raw := (small 7).raw.set c raw, updActive := true, updCh := BitVec.ofNat 3 c.val }

/-- What the channel step leaves in `ACC`, the slot and `FILT` of channel `c`. -/
def channelGives (c : Fin 5) (acc : Word) (slot raw : Sample) (acc' : Word) (filt' : Sample) : Bool :=
  nextWith (step (atChannel c acc slot raw)) fun t =>
    decide (t.acc[c] = acc' ∧ t.ring[c][0] = raw ∧ t.filt[c] = filt' ∧ t.updCh.toNat = c.val + 1)

/-! ## Timer -/

/-- V18: the tick of the cycle of `CTEN`'s own step does not happen. -/
theorem test_cten : nextWith (step (State.reset.withFetchWord 40 0x0100000000))
    (fun t => decide (t.cntEn = true ∧ t.cnt = 0 ∧ t.resp = some { err := 0, data := 0 })) = true := by decide

/-- V8, V9. -/
theorem test_goalc : responds (small 1000) 0x02000000FA 0 0x000004E2 = true ∧
    responds (small 0xFFFFFFF0) 0x0200000020 0 0x00000010 = true := by decide

/-- V16a, V16h, with `CNT = 0`. -/
theorem test_goalms : responds (small 0) 0x0300000001 0 0x00029040 = true ∧
    responds (small 0) 0x03000063DE 0 0x0001D780 = true := by decide

/-- V16k: the product needs 64 bits. -/
theorem test_goalms_wide : responds { small 0 with fHz := 0xFFFFFFFF } 0x03FFFFFFFF 0 0x4B439581 = true := by decide

/-- V10, V12, V15. -/
theorem test_reached : responds (small 9) 0x0400000009 0 1 = true ∧ responds (small 5) 0x04FFFFFFFB 0 1 = true ∧
    responds (small 0x1B) 0x0480000040 0 1 = true := by decide

/-- V11, V13, V14. -/
theorem test_reached_not : responds (small 9) 0x040000000A 0 0 = true ∧ responds (small 9) 0x0480000009 0 0 = true ∧
    responds (small 9) 0x048000000A 0 1 = true := by decide

/-- V17a, V17d: answered in the first cycle. -/
theorem test_sleep_at_once : responds (small 100) 0x0500000000 0 0 = true ∧
    responds (small 100) 0x0580000001 0 0 = true := by decide

/-- V17c: the first cycle of the wait. -/
theorem test_sleep_waits : nextWith (step ((small 0xFFFFFFF5).withFetchWord 40 0x0500000020))
    (fun t => decide (t.goal = 0x15 ∧ t.waiting = true ∧ t.resp = none ∧ t.cnt = 0xFFFFFFF6)) = true := by decide

/-! ## Transmitter -/

/-- V21a. -/
theorem test_txinit : nextWith (step (State.reset.withFetchWord 40 0x0805F5E100))
    (fun t => decide (t.fHz = 100000000 ∧ t.t0h = 35 ∧ t.t0l = 80 ∧ t.t1h = 70 ∧ t.t1l = 60 ∧ t.trst = 5000)) = true := by
  decide

/-- V21d: entries below `OVH` wrap. -/
theorem test_txinit_wraps :
    nextWith (step (({ small 0 with cfg := { Config.reference with ovh := 12, admitted := by decide } }).withFetchWord 40 0x08007A1200))
    (fun t => decide (t.t0h = 0xFFFFFFF6 ∧ t.t0l = 0xFFFFFFFA ∧ t.t1h = 0xFFFFFFF9 ∧ t.t1l = 0xFFFFFFF8 ∧ t.trst = 388)) = true := by
  decide

/-- R124, `ENTER`. -/
theorem test_tx_enters : nextWith (step ((small 3).withFetchWord 40 0x0912345678))
    (fun t => decide (t.irqMask = true ∧ t.shift = 0x345678 ∧ t.bitcnt = 24 ∧ t.seq = .txHigh ∧ t.line = false)) = true := by
  decide

/-- R126, `RISE` of a bit 1 with `T1H = 4`. -/
theorem test_tx_rises :
    nextWith (step { running 6 0x0900800000#40 with seq := .txHigh, irqMask := true, shift := 0x800000, bitcnt := 24 })
    (fun t => decide (t.line = true ∧ t.goal = 10 ∧ t.waiting = true)) = true := by decide

/-- V28: `TXIDX 9` sends `PALETTE[1]`, `TXIDX 255` `PALETTE[7]`. -/
theorem test_txidx_enters :
    nextWith (step ((small 3).withFetchWord 40 0x0A00000009)) (fun t => decide (t.shift = 0x0000FF)) = true ∧
    nextWith (step ((small 3).withFetchWord 40 0x0A000000FF)) (fun t => decide (t.shift = 0xFFFFFF)) = true := by decide

/-- R124, `EXIT` after the 24th bit: the mask falls and the gap of `TRST = 5` begins. -/
theorem test_txidx_exits :
    nextWith (step { running 9 0x0A00000007#40 with
      seq := .txLow, irqMask := true, shift := 0x800000, bitcnt := 1, waiting := true, goal := 9 })
    (fun t => decide (t.irqMask = false ∧ t.seq = .txGap ∧ t.goal = 14 ∧ t.shift = 0 ∧ t.bitcnt = 0)) = true := by decide

/-! ## Acquisition -/

/-- V49. -/
theorem test_acqinit :
    nextWith (step ({ atChannel 2 64000 2000 2100 with tape := [{ cfgFail := 2 }] }.withFetchWord 40 0x1000000000))
    (fun t => decide (t.resp = some { err := 0, data := 2 } ∧ t.irqArmed = true ∧ t.acc[2] = 0 ∧ t.ring[4][31] = 0 ∧ t.cursor = 0)) = true := by
  decide

/-- V48. -/
theorem test_acqrd : responds { small 0 with filt := #v[0, 0, 2003, 0, 65535] } 0x1100000002 0 0x000007D3 = true ∧
    responds { small 0 with filt := #v[0, 0, 2003, 0, 65535] } 0x1100000004 0 0x0000FFFF = true := by decide

/-- V48: `BadChannel`. -/
theorem test_acqrd_bad_channel :
    nextWith (step ((small 0).withFetchWord 40 0x1100000005)) (fun t => decide (t.resp.map Response.err = some 2)) = true ∧
    nextWith (step ((small 0).withFetchWord 40 0x11FFFFFFFF)) (fun t => decide (t.resp.map Response.err = some 2)) = true := by
  decide

/-- V40, V42, V43b. -/
theorem test_update_channel : channelGives 2 64000 2000 2100 64100 2003 = true ∧
    channelGives 0 131040 4095 0 126945 3967 = true ∧ channelGives 4 2097120 65535 0 2031585 63487 = true := by decide

/-- V61: the start step; V47: the cursor wraps from 31 to 0. -/
theorem test_update_start_and_end :
    nextWith (step ((small 0).withFetchWord 8 1)) (fun t => decide (t.updActive = true ∧ t.updCh = 0 ∧ t.scanPend = false ∧ t.scanAck = true)) = true ∧
    nextWith (step { small 0 with updActive := true, updCh := 5, cursor := 31 })
      (fun t => decide (t.updActive = false ∧ t.cursor = 0)) = true := by decide

/-- V6: `IllegalCommand`. -/
theorem test_illegal_command :
    nextWith (step ((small 0).withFetchWord 40 0x0B00000001))
      (fun t => decide (t.resp.map Response.err = some 1 ∧ t.seq = .idle ∧ t.cnt = 1)) = true := by decide

/-- V60: unarmed, a `scan_done` is ignored. -/
theorem test_unarmed_event_ignored :
    nextWith (step { State.reset with tape := [{ scanDone := true }] }) (fun t => decide (t.scanPend = false)) = true := by
  decide

/-! ## Witnesses: hypotheses that can be met -/

/-- In the middle of a frame of `TX 0x800000`, first bit, high phase over: the wait is satisfied. -/
def midHigh : State :=
  { running 10 0x0900800000#40 with
    seq := .txHigh, line := true, irqMask := true, shift := 0x800000, bitcnt := 24, waiting := true, goal := 10 }

/-- The same frame in its low phase, the wait over, with `n` bits left. -/
def midLow (n : BitVec 5) (shift : Color) : State :=
  { midHigh with seq := .txLow, line := false, shift := shift, bitcnt := n }

/-- The same frame in the latch gap, the wait over. -/
def midGap : State := { midHigh with seq := .txGap, line := false, irqMask := false, shift := 0, bitcnt := 0 }

/-- The frame at its `ENTER`. -/
def atEnter : State := running 5 0x09FF8000A5#40

/-- An active update at channel step `c`, a frame's `ENTER` frozen under it. -/
def frozen (c : BitVec 3) : State := { atEnter with updActive := true, updCh := c }

/-- The five words of `RAW` in three passes. -/
def passes : List (Vector Sample 5) := [#v[1, 2, 3, 4, 5], #v[0, 65535, 4095, 0, 1], #v[31, 32, 33, 0, 65535]]

theorem witness_DecodeOfEncode : Instr.wellFormed (.tx 0xA5C30F) = true ∧ Instr.wellFormed .update = true := by decide

theorem witness_EncodeOfDecode : decode (.cmd 0x0AFFFFFFF9#40) = .ok (.txidx 1) ∧ decode (.evt 1#1) = .ok .update :=
  ⟨rfl, rfl⟩

theorem witness_IllegalOpcodesRejected : opField 0x1100000000#40 ∈ legalOpcodes ∧ opField 0x1200000000#40 ∉ legalOpcodes := by
  decide

theorem witness_AssembledWordHoldsOpcodeAndOperand :
    (Mnemonic.acqrd.hasOperand = true ∧ 2 ^ 32 - 1 < 2 ^ 32) ∧ (Mnemonic.tx.hasOperand = true ∧ 0 < 2 ^ 32) ∧
    Mnemonic.cten.hasOperand = false := by decide

theorem witness_StepRunsCommandInExecution :
    (midGap.inp.rst = false ∧ midGap.foregroundRuns = true ∧ midGap.seq ≠ .idle) ∧
    decode (.cmd midGap.cmdreg) = .ok (.tx 0x800000) ∧ Instr.wellFormed (.tx 0x800000) = true ∧
    ∃ t, exec (.tx 0x800000) { midGap with resp := none, scanAck := false } = .next t :=
  ⟨by decide, rfl, rfl, exists_next (by decide)⟩

/-- The clause of a stop: a channel step of channel 6 (log 13). -/
theorem witness_StepRunsUpdate :
    ((frozen 4).inp.rst = false ∧ (frozen 4).inp.updGo = true ∧ (frozen 4).updActive = true) ∧
    (∃ t, exec .update { frozen 4 with resp := none, scanAck := false } = .next t) ∧
    (({ small 3 with scanPend := true }).eligible = true ∧ ({ small 3 with scanPend := true }).inp.updGo = true) ∧
    exec .update { frozen 6 with resp := none, scanAck := false } = .fault .updChOutOfRange :=
  ⟨by decide, exists_next (by decide), by decide, rfl⟩

theorem witness_PlacedWordIsRunNext :
    decodeTableWord 40 0x11FFFFFFFF = some (.acqrd 0xFFFFFFFF) ∧ decodeTableWord 8 1 = some .update := by decide

theorem witness_IllegalCommandRaisesFault :
    let s := running 3 0x0B00000001#40
    s.inp.rst = false ∧ s.foregroundRuns = true ∧ s.seq ≠ .idle ∧ opField s.cmdreg ∉ legalOpcodes := by decide

theorem witness_ResetTakesResetValues : ({ midHigh with tape := [{ rst := true, cmdValid := true }] }).inp.rst = true := by
  decide

theorem witness_CounterTicksEveryCycle :
    ((small 0xFFFFFFFF).inp.rst = false ∧ (small 0xFFFFFFFF).NoReset 2 ∧ (small 0xFFFFFFFF).cntEn = true) ∧
    (∃ t, step (small 0xFFFFFFFF) = .next t) ∧ ∃ t, runFor 2 (small 0xFFFFFFFF) = .next t :=
  ⟨by decide, exists_next (by decide), exists_next (by decide)⟩

/-- A state whose present cycle has the inputs `i`. -/
def withInputs (s : State) (i : Inputs) : State := { s with tape := [i, { rst := true }] }

/-- `s` with the word `w` offered to it, in a cycle that answers a next state. -/
def offered (s : State) (w : CmdWord) : Bool :=
  let t := withInputs s { cmdValid := true, cmdWord := w }
  decide (t.inp.rst = false ∧ t.inp.cmdValid = true) && nextWith (step t) (fun _ => true)

/-- The clause of acceptance, with a word that starts in `SLP_WAIT`, one in `TX_ENTER`, one in `EXEC`. -/
theorem witness_AcceptanceLatchesCommand :
    ((small 1).seq = .idle ∧ (small 1).updActive = false) ∧ offered (small 1) 0x0500000005#40 = true ∧
    offered (small 1) 0x0AFFFFFFFF#40 = true ∧ offered (small 1) 0xFF00000000#40 = true := by decide

/-- The clause of no acceptance: while busy, and while an update is active. -/
theorem witness_AcceptanceLatchesCommand_not :
    midGap.seq ≠ .idle ∧ offered midGap 0x0500000005#40 = true ∧
    (frozen 3).updActive = true ∧ offered { frozen 3 with seq := .idle } 0x0500000005#40 = true := by decide

/-- Channel 4, the last legal one, and channel 5, ignored; a write in the cycle of the channel's own step. -/
theorem witness_RawWrittenOnlyByItsPort :
    ∀ s ∈ [withInputs (small 1) { rawWe := true, rawCh := 4, rawData := 9 },
        withInputs (small 1) { rawWe := true, rawCh := 5, rawData := 9 },
        withInputs (frozen 4) { rawWe := true, rawCh := 4, rawData := 9 }],
      s.inp.rst = false ∧ s.inp.rawWe = true ∧ nextWith (step s) (fun _ => true) = true := by decide

/-- A set, a set in the start cycle, a clear by the start step, a clear by `ACQINIT`, a hold. -/
theorem witness_ScanEventBecomesPending :
    ∀ s ∈ [withInputs (small 1) { scanDone := true }, withInputs { small 1 with scanPend := true } { scanDone := true },
        withInputs { small 1 with scanPend := true } {},
        withInputs { running 1 0x1000000000#40 with scanPend := true } { updGo := false },
        withInputs { midHigh with scanPend := true } {}],
      s.inp.rst = false ∧ nextWith (step s) (fun _ => true) = true := by decide

/-- An active update, and the start cycle of one with an acceptance in it. -/
theorem witness_ForegroundFrozenDuringUpdate :
    ((frozen 2).inp.rst = false ∧ (frozen 2).foregroundRuns = false ∧ (frozen 2).accepts = false ∧
      nextWith (step (frozen 2)) (fun _ => true) = true) ∧
    let s := withInputs { small 1 with scanPend := true } { cmdValid := true, cmdWord := 0x0900800000#40 }
    s.inp.rst = false ∧ s.foregroundRuns = false ∧ s.accepts = true ∧ nextWith (step s) (fun _ => true) = true := by decide

theorem witness_ParametersNeverChange : ∃ t, step midHigh = .next t := exists_next (by decide)

/-- A cycle of `CTEN`'s step, one of `ACQINIT`'s, one of neither. -/
theorem witness_ArmBitsOnlySet :
    ∀ s ∈ [State.reset.withFetchWord 40 0x0100000000, State.reset.withFetchWord 40 0x1000000000, midHigh],
      s.inp.rst = false ∧ nextWith (step s) (fun _ => true) = true := by decide

theorem witness_TableWrittenOnlyByTxinit :
    midHigh.inp.rst = false ∧ (∃ t, step midHigh = .next t) ∧
    ¬ (midHigh.turn = .foreground ∧ ∃ f, midHigh.fetch = .ok (.txinit f)) :=
  ⟨by decide, exists_next (by decide), fun h => h.2.elim fun _ h => by cases h⟩

theorem witness_FrameRegistersWrittenOnlyByFrames :
    let s := running 3 0x1000000000#40
    s.inp.rst = false ∧ nextWith (step s) (fun _ => true) = true ∧
    ¬ (s.turn = .foreground ∧ ∃ color, s.frameColor = some color) :=
  ⟨by decide, by decide, fun h => h.2.elim fun _ h => by cases h⟩

theorem witness_FilterWrittenOnlyByUpdateAndAcqinit :
    midHigh.inp.rst = false ∧ (∃ t, step midHigh = .next t) ∧ midHigh.turn ≠ .handler ∧
    ¬ (midHigh.turn = .foreground ∧ midHigh.fetch = .ok .acqinit) :=
  ⟨by decide, exists_next (by decide), by decide, fun h => by cases h.2⟩

/-- The clause of a next state, and that of a stop (log 13). -/
theorem witness_ForegroundCannotReadRaw :
    (midHigh.turn ≠ .handler ∧ ∃ t, step midHigh = .next t) ∧
    ({ midHigh with seq := .exec }.turn ≠ .handler ∧ step { midHigh with seq := .exec } = .fault .seqIncoherent) :=
  ⟨⟨by decide, exists_next (by decide)⟩, by decide, rfl⟩

theorem witness_MaskDefersUpdates :
    let s := withInputs { midHigh with scanPend := true } { scanDone := true }
    s.Coherent ∧ s.inp.rst = false ∧ s.irqMask = true ∧ nextWith (step s) (fun _ => true) = true ∧ s.scanPend = true := by
  decide

/-- Each clause at its bounds: with `u(n) = 2^31` the last tick before the window, its first and its last,
and the first after it; with `u(n) = 2^31 + 1` the tick 0. -/
theorem witness_ReachWindow :
    (∀ e ∈ [2 ^ 31 - 1, 2 ^ 31, 2 ^ 32 - 1, 2 ^ 32, 0], (small (5 + BitVec.ofNat 32 e)).cnt = 5 + BitVec.ofNat 32 e) ∧
    ((0x80000000#32).toNat ≤ 2 ^ 31 ∧ 2 ^ 31 - 1 < (0x80000000#32).toNat) ∧
    ((0x80000000#32).toNat ≤ 2 ^ 31 ∧ 2 ^ 31 < (0x80000000#32).toNat + 2 ^ 31) ∧
    ((0x80000000#32).toNat ≤ 2 ^ 32 - 1 ∧ 2 ^ 32 - 1 < (0x80000000#32).toNat + 2 ^ 31) ∧
    ((0x80000000#32).toNat + 2 ^ 31 ≤ 2 ^ 32 ∧ 2 ^ 32 < (0x80000000#32).toNat + 2 ^ 32) ∧
    (2 ^ 31 < (0x80000001#32).toNat ∧ 0 + 2 ^ 31 < (0x80000001#32).toNat) := by decide

theorem witness_SleepStepsItsWait :
    (running 3 0x0500000005#40).waiting = false ∧
    ({ running 3 0x0500000005#40 with waiting := true, goal := 3 }).waiting = true := by decide

/-- `SLEEP` in its first cycle, the schedule holding an event back for four cycles. -/
def sleeping (w : CmdWord) : State :=
  { running 0xFFFFFFFF w with tape := List.replicate 4 { updGo := false, scanDone := true } }

/-- `eff(n) = 3`, with cycles before the response. -/
theorem witness_SleepLastsEffCycles :
    let s := sleeping 0x0500000003#40
    s.fetch = .ok (.sleep 3) ∧ s.seq = .slpWait ∧ s.waiting = false ∧ s.cntEn = true ∧ s.updActive = false ∧
      s.NoReset (eff 3 + 1) ∧ s.NoUpdate (eff 3 + 1) :=
  ⟨rfl, by decide⟩

/-- `eff(n) = 0`, for the `n` just above `2^31`. -/
theorem witness_SleepLastsEffCycles_at_once :
    let s := sleeping 0x0580000001#40
    s.fetch = .ok (.sleep 0x80000001) ∧ s.seq = .slpWait ∧ s.waiting = false ∧ s.cntEn = true ∧ s.updActive = false ∧
      s.NoReset (eff 0x80000001 + 1) ∧ s.NoUpdate (eff 0x80000001 + 1) :=
  ⟨rfl, by decide⟩

theorem witness_WaitWithStoppedCounterHangs :
    let s := { midHigh with cntEn := false, goal := 11 }
    s.Coherent ∧ s.cntEn = false ∧ s.waiting = true ∧ reachedAt s.cnt s.goal = false ∧ s.NoReset (9 + 1) := by decide

theorem witness_RealisedLengthIsNominalOrOverhead : (0 ≤ 500000000) ∧ (500000000 ≤ 500000000) := by decide

theorem witness_FrameTouchesOnlyItsRegisters :
    ((∃ color, Instr.tx 0x800000 = .tx color) ∨ ∃ idx, Instr.tx 0x800000 = .txidx idx) ∧
    ((∃ color, Instr.txidx 7 = .tx color) ∨ ∃ idx, Instr.txidx 7 = .txidx idx) ∧
    atEnter.seq = .txEnter ∧ midHigh.seq = .txHigh ∧ (midLow 1 0x800000).seq = .txLow ∧ midGap.seq = .txGap :=
  ⟨.inl ⟨_, rfl⟩, .inr ⟨_, rfl⟩, by decide⟩

theorem witness_FrameEnters : atEnter.seq = .txEnter := by decide

theorem witness_FrameRises :
    ((∃ color, Instr.tx 0x800000 = .tx color) ∨ ∃ idx, Instr.tx 0x800000 = .txidx idx) ∧
    let s := { midHigh with line := false, waiting := false }
    s.seq = .txHigh ∧ s.line = false ∧ 1 ≤ s.highLen s.sendBit :=
  ⟨.inl ⟨_, rfl⟩, by decide⟩

/-- Each state of a wait, not over: goal not reached, and `OVHC` not run out. -/
theorem witness_FrameWaits :
    ((∃ color, Instr.txidx 7 = .tx color) ∨ ∃ idx, Instr.txidx 7 = .txidx idx) ∧
    ∀ s ∈ [{ midHigh with goal := 11 }, { midLow 5 0x800000 with waiting := false, ovhc := 1 }, { midGap with goal := 15 }],
      ((s.seq = .txHigh ∧ s.line = true) ∨ s.seq = .txLow ∨ s.seq = .txGap) ∧
      ¬ ((s.waiting = true ∧ reachedAt s.cnt s.goal = true ∧ s.cfg.ovh = 0) ∨ (s.waiting = false ∧ s.ovhc = 0)) :=
  ⟨.inr ⟨_, rfl⟩, by decide⟩

theorem witness_FrameFalls :
    ((∃ color, Instr.tx 0x800000 = .tx color) ∨ ∃ idx, Instr.tx 0x800000 = .txidx idx) ∧
    let s := midHigh
    s.seq = .txHigh ∧ s.line = true ∧
    ((s.waiting = true ∧ reachedAt s.cnt s.goal = true ∧ s.cfg.ovh = 0) ∨ (s.waiting = false ∧ s.ovhc = 0)) ∧
    1 ≤ s.lowLen s.sendBit :=
  ⟨.inl ⟨_, rfl⟩, by decide⟩

theorem witness_FrameGoesToNextBit :
    ((∃ color, Instr.tx 0x800000 = .tx color) ∨ ∃ idx, Instr.tx 0x800000 = .txidx idx) ∧
    let s := midLow 2 0xC00000
    s.seq = .txLow ∧ s.bitcnt ≠ 1 ∧
    ((s.waiting = true ∧ reachedAt s.cnt s.goal = true ∧ s.cfg.ovh = 0) ∨ (s.waiting = false ∧ s.ovhc = 0)) ∧
    1 ≤ s.highLen (s.shift.getLsbD 22) :=
  ⟨.inl ⟨_, rfl⟩, by decide⟩

theorem witness_FrameExits :
    ((∃ color, Instr.txidx 7 = .tx color) ∨ ∃ idx, Instr.txidx 7 = .txidx idx) ∧
    let s := midLow 1 0x800000
    s.seq = .txLow ∧ s.bitcnt = 1 ∧
    ((s.waiting = true ∧ reachedAt s.cnt s.goal = true ∧ s.cfg.ovh = 0) ∨ (s.waiting = false ∧ s.ovhc = 0)) ∧
    1 ≤ s.gapLen :=
  ⟨.inr ⟨_, rfl⟩, by decide⟩

theorem witness_FrameResponds :
    ((∃ color, Instr.tx 0x800000 = .tx color) ∨ ∃ idx, Instr.tx 0x800000 = .txidx idx) ∧
    let s := midGap
    s.seq = .txGap ∧
    ((s.waiting = true ∧ reachedAt s.cnt s.goal = true ∧ s.cfg.ovh = 0) ∨ (s.waiting = false ∧ s.ovhc = 0)) :=
  ⟨.inl ⟨_, rfl⟩, by decide⟩

/-- V29 with `OVH = 0`: `TX` before any `TXINIT`. -/
theorem witness_FrameWithoutLengthIsOneCycle :
    ((∃ color, Instr.tx 0x800000 = .tx color) ∨ ∃ idx, Instr.tx 0x800000 = .txidx idx) ∧
    let s := { midHigh with line := false, t0h := 0, t0l := 0, t1h := 0, t1l := 0, trst := 0 }
    s.seq = .txHigh ∧ s.line = false ∧ s.bitcnt = 24 ∧ (∀ b, s.highLen b = 0 ∧ s.lowLen b = 0) ∧ s.gapLen = 0 :=
  ⟨.inl ⟨_, rfl⟩, by decide⟩

theorem witness_FrameWaveformIsExact :
    let s := { atEnter with tape := [{ updGo := false, scanDone := true }, { rawWe := true, rawCh := 3 }] }
    s.seq = .txEnter ∧ s.frameColor = some 0x8000A5 ∧ s.foregroundRuns = true ∧ s.line = false ∧ s.cntEn = true ∧
      s.PhasesNonzero ∧ s.NoReset (s.frameLen 0x8000A5 + 2) := by decide

theorem witness_FrameDurationIsExact :
    let s := { atEnter with tape := List.replicate 200 { updGo := false, scanDone := true } }
    s.seq = .txEnter ∧ s.frameColor = some 0x8000A5 ∧ s.updActive = false ∧ s.line = false ∧ s.cntEn = true ∧
      s.PhasesNonzero ∧ s.NoReset (s.frameLen 0x8000A5 + s.gapLen + 2) ∧
      s.NoUpdate (s.frameLen 0x8000A5 + s.gapLen + 2) := by decide

/-- The same with a latch gap of length 0. -/
theorem witness_FrameDurationIsExact_no_gap :
    let s := { atEnter with trst := 0, tape := List.replicate 200 { updGo := false } }
    s.seq = .txEnter ∧ s.frameColor = some 0x8000A5 ∧ s.updActive = false ∧ s.line = false ∧ s.cntEn = true ∧
      s.PhasesNonzero ∧ s.gapLen = 0 ∧ s.NoReset (s.frameLen 0x8000A5 + s.gapLen + 2) ∧
      s.NoUpdate (s.frameLen 0x8000A5 + s.gapLen + 2) := by decide

/-- `ACQRD 0` and `ACQRD 4`, the first and the last channel. -/
theorem witness_AcqrdRespondsFilteredWord : (0#32).toNat < 5 ∧ (4#32).toNat < 5 := by decide

theorem witness_AcqrdOutOfRangeRaisesBadChannel : 5 ≤ (5#32).toNat ∧ 5 ≤ (0xFFFFFFFF#32).toNat := by decide

/-- An eligible state, and one for each condition missing. -/
theorem witness_UpdateStartsInEligibleCycles :
    (∀ s ∈ [{ small 1 with scanPend := true }],
      s.updActive = false ∧ s.scanPend = true ∧ s.irqArmed = true ∧ s.irqMask = false) ∧
    ∀ s ∈ [small 1, { small 1 with scanPend := true, irqArmed := false }, { midHigh with scanPend := true }],
      s.updActive = false ∧ (s.scanPend = false ∨ s.irqArmed = false ∨ s.irqMask = true) := by decide

theorem witness_UpdateChannelStep :
    ((frozen 0).updActive = true ∧ (frozen 0).updCh.toNat = (0 : Fin 5).val) ∧
    (frozen 4).updActive = true ∧ (frozen 4).updCh.toNat = (4 : Fin 5).val := by decide

theorem witness_UpdateCursorStep : (frozen 5).updActive = true ∧ (frozen 5).updCh = 5 := by decide

theorem witness_WholeUpdate : ({ small 1 with scanPend := true, cursor := 31 }).eligible = true := by decide

theorem witness_MovingWindow :
    (small 1).irqArmed = true ∧ (small 1).irqMask = false ∧ (small 1).updActive = false ∧
    (∀ c k, (small 1).memRead (.ring c k) = 0) ∧
    (∀ c, (small 1).memRead (.acc c) = 0 ∧ (small 1).memRead (.filt c) = 0) ∧ passes.length = 3 := by decide

/-- Channel 2 reads 4095 in 32 updates, the other channels something else (V44). -/
theorem witness_ConstantInputConverges :
    let s := small 1
    s.FilterInv ∧ s.irqArmed = true ∧ s.irqMask = false ∧ s.updActive = false ∧
    (List.replicate 32 (#v[1, 2, 4095, 3, 65535] : Vector Sample 5)).length = 32 ∧
    ∀ x ∈ List.replicate 32 (#v[1, 2, 4095, 3, 65535] : Vector Sample 5), x[(2 : Fin 5)] = 4095 :=
  ⟨by decide, by decide, by decide, by decide, by decide, fun x hx => by rw [List.eq_of_mem_replicate hx]; decide⟩

/-- A filter in which every ring holds 32 samples of 4095: the bound 131040 itself (V42). -/
def fullFilter : State :=
  { small 1 with
    ring := Vector.replicate 5 (Vector.replicate 32 4095)
    acc := Vector.replicate 5 131040, filt := Vector.replicate 5 4095 }

theorem witness_AccumulatorRange : fullFilter.SumHolds ∧ ∀ k : Fin 32, fullFilter.ring[(0 : Fin 5)][k].toNat ≤ 4095 := by
  decide

theorem witness_StepKeepsFilterInv :
    let s := { fullFilter with updActive := true, updCh := 1 }
    s.FilterInv ∧ nextWith (step s) (fun _ => true) = true := by decide

theorem witness_StepKeepsCoherent :
    ∀ s ∈ [midHigh, midLow 1 0x800000, midGap, frozen 5, running 3 0x0500000005#40],
      s.Coherent ∧ nextWith (step s) (fun _ => true) = true := by decide

theorem witness_CoherentStepNeverStops : ∀ s ∈ [midHigh, frozen 5, running 3 0xFF00000000#40], s.Coherent := by
  decide

/-- The clause of a frame's step, with `SEQ` at each of the three. -/
theorem witness_IncoherentStatesStop :
    ((∃ color, Instr.tx 0x800000 = .tx color) ∨ ∃ idx, Instr.tx 0x800000 = .txidx idx) ∧
    ({ midHigh with seq := .idle }).seq = .idle ∧
    (({ midHigh with seq := .exec }).seq = .exec ∧ ({ midHigh with seq := .exec }).fetch = .ok (.tx 0x800000)) ∧
    ({ midHigh with seq := .slpWait }).seq = .slpWait ∧
    ({ midHigh with seq := .slpWait }).fetch = .ok (.tx 0x800000) :=
  ⟨.inl ⟨_, rfl⟩, rfl, ⟨rfl, rfl⟩, rfl, rfl⟩

/-- The clause of the channel step, and the stops that the last two clauses start from. -/
theorem witness_IncoherentStatesStop_conversely :
    ((frozen 6).updActive = true ∧ 6 ≤ (frozen 6).updCh.toNat) ∧
    ((frozen 7).updActive = true ∧ 6 ≤ (frozen 7).updCh.toNat) ∧
    exec (.txidx 7) { midHigh with seq := .idle } = .fault .seqIncoherent ∧
    exec .update (frozen 7) = .fault .updChOutOfRange ∧
    step { midHigh with seq := .exec } = .fault .seqIncoherent ∧ step (frozen 6) = .fault .updChOutOfRange :=
  ⟨by decide, by decide, rfl, rfl, rfl, rfl⟩

end Sys2Proof.Tests
end

/-! SUPPORT and the family `00_scope.md`: the effective length of a wait (R9), said for the realised length of a
phase begun with a table entry and for the cycles of `SLEEP`. -/

namespace Sys2Proof.Machine

/-! ## The length of a table entry (`41_color_transmitter.md` R120, R121, R136) -/

/-- A duration up to half a second has a nominal length below `2^31`, whatever the frequency. -/
theorem nominalCycles_lt {d : Nat} (f : Word) (hd : d ≤ 500000000) : d * f.toNat / 1000000000 < 2 ^ 31 := by
  have hf : f.toNat < 2 ^ 32 := f.isLt
  have hprod : d * f.toNat ≤ 500000000 * f.toNat := Nat.mul_le_mul_right _ hd
  omega

/-- A wait for the difference of two small numbers lasts the truncated difference: a difference below 0
wraps to a vector above `2^31`, which `eff` reads as 0. -/
theorem eff_sub {a b : Word} (ha : a.toNat < 2 ^ 31) (hb : b.toNat < 2 ^ 31) : eff (a - b) = a.toNat - b.toNat := by
  have hsub : (a - b).toNat = (2 ^ 32 - b.toNat + a.toNat) % 2 ^ 32 := BitVec.toNat_sub a b
  unfold eff
  split <;> omega

@[simp] theorem toNat_ovhWord (p : Params) : (ovhWord p).toNat = p.ovh.toNat :=
  BitVec.toNat_setWidth_of_le (by decide)

/-- `cyc_ns` truncates nothing of a length below `2^32`. -/
theorem toNat_cycNs {d : Nat} {f : Word} (h : d * f.toNat / 1000000000 < 2 ^ 32) :
    (cycNs d f).toNat = d * f.toNat / 1000000000 :=
  (BitVec.toNat_ofNat _ _).trans (Nat.mod_eq_of_lt h)

/-- An entry waits for what the overhead leaves of the nominal length, and for nothing if it leaves nothing. -/
theorem eff_tableEntry (p : Params) {d : Nat} (f : Word) (hd : d ≤ 500000000) :
    eff (tableEntry p d f) = d * f.toNat / 1000000000 - p.ovh.toNat := by
  have hc := nominalCycles_lt f hd
  have ho : p.ovh.toNat < 2 ^ 31 := p.ovh.isLt
  have hn : (cycNs d f).toNat = d * f.toNat / 1000000000 := toNat_cycNs (hc.trans (by decide))
  rw [tableEntry, eff_sub (by rwa [hn]) (by rwa [toNat_ovhWord]), hn, toNat_ovhWord]

/-! ## One cycle of `SLEEP` (`40_cycle_timer.md` R107, R108) -/

theorem State.sleepStep_of_eff_zero (s : State) (n : Word) (hw : s.waiting = false) (h : eff n = 0) :
    s.sleepStep n = { s.respond 0 with goal := s.cnt + n, waiting := false } := by
  simp [State.sleepStep, hw, (reachedAt_begin_iff s.cnt n).2 h]

theorem State.sleepStep_of_eff_pos (s : State) (n : Word) (hw : s.waiting = false) (h : eff n ≠ 0) :
    s.sleepStep n = { s with goal := s.cnt + n, waiting := true } := by
  simp [State.sleepStep, hw, mt (reachedAt_begin_iff s.cnt n).1 h]

theorem State.sleepStep_of_reached (s : State) (n : Word) (hw : s.waiting = true)
    (h : reachedAt s.cnt s.goal = true) : s.sleepStep n = { s.respond 0 with waiting := false } := by
  simp [State.sleepStep, hw, h]

theorem State.sleepStep_of_not_reached (s : State) (n : Word) (hw : s.waiting = true)
    (h : reachedAt s.cnt s.goal = false) : s.sleepStep n = s := by
  simp [State.sleepStep, hw, h]

/-! ## A cycle of the foreground with no update in it -/

/-- The schedule withholds every update that could start. -/
theorem State.foregroundRuns_of_held (s : State) (ha : s.updActive = false) (hg : s.inp.updGo = false) :
    s.foregroundRuns = true := by
  simp [State.foregroundRuns, State.updStarts, ha, hg]

/-- No command is accepted while one is in execution (`10_state.md` R21). -/
theorem State.accepts_of_busy (s : State) (h : s.seq ≠ .idle) : s.accepts = false := by
  simp [State.accepts, State.cmdReady, h]

/-- The inputs of the present cycle are those of the 0-th. -/
theorem State.inpAt_zero (s : State) : s.inpAt 0 = s.inp := by
  simp [State.inpAt, State.inp]

/-! ## The wait of `SLEEP`, cycle by cycle -/

/-- The command in execution is `SLEEP n`, the counter runs and no update is active. -/
structure State.Sleeps (s : State) (n : Word) : Prop where
  seq : s.seq = .slpWait
  fetch : s.fetch = .ok (.sleep n)
  cntEn : s.cntEn = true
  updActive : s.updActive = false

theorem State.Sleeps.busy {s : State} {n : Word} (h : s.Sleeps n) : s.seq ≠ .idle := by
  simp [h.seq]

theorem State.Sleeps.accepts {s : State} {n : Word} (h : s.Sleeps n) : s.accepts = false :=
  s.accepts_of_busy h.busy

/-- Such a cycle, with no reset and no update in it, is a cycle of the wait. -/
theorem State.Sleeps.step_eq {s : State} {n : Word} (h : s.Sleeps n) (hr : s.inp.rst = false)
    (hg : s.inp.updGo = false) : step s = .next (s.endCycle (s.beginCycle.sleepStep n)) := by
  have hturn := s.turn_foreground hr (s.foregroundRuns_of_held h.updActive hg) h.busy
  exact step_of_command s _ hturn h.fetch

/-- `t` is the state `k` cycles after `SLEEP n` began in `s`, its wait not over. -/
structure State.SleepsSince (s : State) (n : Word) (k : Nat) (t : State) : Prop extends t.Sleeps n where
  waiting : t.waiting = true
  goal : t.goal = s.cnt + n
  cnt : t.cnt = s.cnt + BitVec.ofNat 32 k
  resp : t.resp = none
  inpAt : ∀ j, t.inpAt j = s.inpAt (k + j)

theorem State.SleepsSince.inp {s t : State} {n : Word} {k : Nat} (h : s.SleepsSince n k t) :
    t.inp = s.inpAt k := by
  rw [← t.inpAt_zero, h.inpAt, Nat.add_zero]

/-- The first cycle writes the goal and begins the wait. -/
theorem State.Sleeps.begins {s : State} {n : Word} (h : s.Sleeps n) (hw : s.waiting = false)
    (hr : s.inp.rst = false) (hg : s.inp.updGo = false) (hn : eff n ≠ 0) :
    ∃ t, step s = .next t ∧ s.SleepsSince n 1 t := by
  have hbusy := h.accepts
  refine ⟨_, h.step_eq hr hg, ?_⟩
  rw [s.beginCycle.sleepStep_of_eff_pos n hw hn]
  exact
    { seq := by simp [hbusy, h.seq]
      fetch := by simpa [State.fetch, hbusy] using h.fetch
      cntEn := h.cntEn
      updActive := h.updActive
      waiting := rfl
      goal := rfl
      cnt := by simp [h.cntEn]
      resp := rfl
      inpAt := fun j => by rw [endCycle_inpAt, Nat.add_comm] }

/-- A later cycle before `eff(n)` changes nothing of the wait. -/
theorem State.SleepsSince.continues {s t : State} {n : Word} {k : Nat} (h : s.SleepsSince n k t)
    (hr : (s.inpAt k).rst = false) (hg : (s.inpAt k).updGo = false) (hk : k < eff n) :
    ∃ u, step t = .next u ∧ s.SleepsSince n (k + 1) u := by
  have hbusy := h.accepts
  have hgoal : reachedAt t.cnt t.goal = false := by
    rw [h.cnt, h.goal]; exact reachedAt_before_eff s.cnt n k hk
  refine ⟨_, h.toSleeps.step_eq (h.inp ▸ hr) (h.inp ▸ hg), ?_⟩
  rw [t.beginCycle.sleepStep_of_not_reached n h.waiting hgoal]
  exact
    { seq := by simp [hbusy, h.seq]
      fetch := by simpa [State.fetch, hbusy] using h.fetch
      cntEn := h.cntEn
      updActive := h.updActive
      waiting := h.waiting
      goal := h.goal
      cnt := by simp [h.cntEn, h.cnt, BitVec.ofNat_add, BitVec.add_assoc]
      resp := rfl
      inpAt := fun j => by rw [endCycle_inpAt, h.inpAt]; congr 1; omega }

/-- What the response of `SLEEP n` begun in `s` leaves. -/
structure State.SleepDone (s : State) (n : Word) (t : State) : Prop where
  resp : t.resp = some { err := 0, data := 0 }
  seq : t.seq = .idle
  waiting : t.waiting = false
  goal : t.goal = s.cnt + n

/-- With `eff(n) = 0` the first cycle responds (`40_cycle_timer.md` R108). -/
theorem State.Sleeps.responds_at_once {s : State} {n : Word} (h : s.Sleeps n) (hw : s.waiting = false)
    (hr : s.inp.rst = false) (hg : s.inp.updGo = false) (hn : eff n = 0) :
    ∃ t, step s = .next t ∧ s.SleepDone n t := by
  have hbusy := h.accepts
  refine ⟨_, h.step_eq hr hg, ?_⟩
  rw [s.beginCycle.sleepStep_of_eff_zero n hw hn]
  exact { resp := rfl, seq := by simp [hbusy], waiting := rfl, goal := rfl }

/-- The cycle `eff(n)` after the first responds. -/
theorem State.SleepsSince.responds {s t : State} {n : Word} (h : s.SleepsSince n (eff n) t)
    (hr : (s.inpAt (eff n)).rst = false) (hg : (s.inpAt (eff n)).updGo = false) :
    ∃ u, step t = .next u ∧ s.SleepDone n u := by
  have hbusy := h.accepts
  have hgoal : reachedAt t.cnt t.goal = true := by
    rw [h.cnt, h.goal]; exact reachedAt_at_eff s.cnt n
  refine ⟨_, h.toSleeps.step_eq (h.inp ▸ hr) (h.inp ▸ hg), ?_⟩
  rw [t.beginCycle.sleepStep_of_reached n h.waiting hgoal]
  exact { resp := rfl, seq := by simp [hbusy], waiting := rfl, goal := h.goal }

/-- A run of `k` cycles and one cycle more. -/
theorem runFor_succ_of_runFor {s t : State} {k : Nat} (h : runFor k s = .next t) :
    runFor (k + 1) s = step t := by
  rw [runFor_add k 1 h]
  cases hs : step t <;> simp [runFor, hs]

/-- The wait goes on through its first `eff(n)` cycles. -/
theorem State.Sleeps.run_waits {s : State} {n : Word} (h : s.Sleeps n) (hw : s.waiting = false)
    (hr : s.NoReset (eff n + 1)) (hg : s.NoUpdate (eff n + 1)) (k : Nat) (h1 : 1 ≤ k) (hk : k ≤ eff n) :
    ∃ t, runFor k s = .next t ∧ s.SleepsSince n k t := by
  induction k, h1 using Nat.le_induction with
  | base =>
    have hr0 := s.inpAt_zero ▸ hr 0 (by omega)
    have hg0 := s.inpAt_zero ▸ hg 0 (by omega)
    obtain ⟨t, hstep, ht⟩ := h.begins hw hr0 hg0 (by omega)
    exact ⟨t, runFor_succ_of_step 0 hstep, ht⟩
  | succ k _ ih =>
    obtain ⟨t, hrun, ht⟩ := ih (by omega)
    obtain ⟨u, hstep, hu⟩ := ht.continues (hr k (by omega)) (hg k (by omega)) (by omega)
    exact ⟨u, (runFor_succ_of_runFor hrun).trans hstep, hu⟩

/-- The cycle after those responds. -/
theorem State.Sleeps.run_responds {s : State} {n : Word} (h : s.Sleeps n) (hw : s.waiting = false)
    (hr : s.NoReset (eff n + 1)) (hg : s.NoUpdate (eff n + 1)) :
    ∃ t, runFor (eff n + 1) s = .next t ∧ s.SleepDone n t := by
  by_cases hn : eff n = 0
  · have hr0 := s.inpAt_zero ▸ hr 0 (by omega)
    have hg0 := s.inpAt_zero ▸ hg 0 (by omega)
    obtain ⟨t, hstep, ht⟩ := h.responds_at_once hw hr0 hg0 hn
    rw [hn]
    exact ⟨t, runFor_succ_of_step 0 hstep, ht⟩
  · obtain ⟨t, hrun, ht⟩ := h.run_waits hw hr hg (eff n) (by omega) le_rfl
    obtain ⟨u, hstep, hu⟩ := ht.responds (hr _ (by omega)) (hg _ (by omega))
    exact ⟨u, (runFor_succ_of_runFor hrun).trans hstep, hu⟩

end Sys2Proof.Machine

namespace Sys2Proof.Proofs

open Sys2Proof.Machine

/-- Settles O32: the entry waits for the nominal length less the overhead, cut off at 0, and the phase adds
the overhead again. -/
theorem realisedLengthIsNominalOrOverhead : Obligations.RealisedLengthIsNominalOrOverhead := by
  intro p d f hd
  rw [phaseLen, eff_tableEntry p f hd]
  exact Nat.sub_add_eq_max _ _

/-- Settles O29: the wait goes on for `eff(n)` cycles by induction on the cycle, and the next one finds the goal
reached. -/
theorem sleepLastsEffCycles : Obligations.SleepLastsEffCycles := by
  intro s n hseq hfetch hw hen ha hr hg
  have h : s.Sleeps n := ⟨hseq, hfetch, hen, ha⟩
  constructor
  · intro k h1 hk
    obtain ⟨t, hrun, ht⟩ := h.run_waits hw hr hg k h1 hk
    exact ⟨t, hrun, ht.resp, ht.seq, ht.goal⟩
  · obtain ⟨t, hrun, ht⟩ := h.run_responds hw hr hg
    exact ⟨t, hrun, ht.resp, ht.seq, ht.waiting, ht.goal⟩

end Sys2Proof.Proofs

/-! SUPPORT and the family `10_state.md`: what the agent of a cycle can write, said once for the statements about
every step; the agreement of the control registers; the frame whose phases have no length. -/

namespace Sys2Proof.Machine

/-! ## The turn of a cycle (`60_exceptions.md` R169, R170) -/

theorem State.turn_eq_reset (s : State) (hr : s.inp.rst = true) : s.turn = .reset := by
  simp [State.turn, hr]

theorem State.turn_ne_reset (s : State) (hr : s.inp.rst = false) : s.turn ≠ .reset := by
  intro hT
  rcases s.turn_cases with h | h | h | h <;> simp_all

/-- An update that may take a step does take it when the schedule chooses it. -/
theorem State.turn_handler (s : State) (hr : s.inp.rst = false) (hg : s.inp.updGo = true)
    (h : s.updActive = true ∨ s.eligible = true) : s.turn = .handler := by
  rcases h with ha | he
  · simp [State.turn, hr, hg, ha]
  · have ha : s.updActive = false := by simp_all [State.eligible]
    simp [State.turn, hr, hg, ha, State.updStarts, he]

theorem State.runs_of_foreground (s : State) (hT : s.turn = .foreground) :
    s.foregroundRuns = true ∧ s.seq ≠ .idle := by
  rcases s.turn_cases with ⟨h, _⟩ | ⟨h, _⟩ | ⟨_, _, hruns, hbusy⟩ | ⟨h, _⟩
  · simp [hT] at h
  · simp [hT] at h
  · exact ⟨hruns, hbusy⟩
  · simp [hT] at h

theorem State.updActive_of_foreground (s : State) (hT : s.turn = .foreground) : s.updActive = false := by
  have hruns := (s.runs_of_foreground hT).1
  simp_all [State.foregroundRuns]

theorem State.accepts_iff (s : State) :
    s.accepts = true ↔ s.inp.cmdValid = true ∧ s.seq = .idle ∧ s.updActive = false := by
  simp [State.accepts, State.cmdReady]

/-! ## What the agent of a cycle leaves for the clock edge (`10_state.md` R51) -/

/-- `u` is what the agent whose turn it is leaves of `s` in a cycle outside reset. -/
inductive State.AgentLeaves (s : State) : State → Prop where
  | idle (hT : s.turn = .none) : s.AgentLeaves s.beginCycle
  | handler {u : State} (hT : s.turn = .handler) (hu : execUpdate s.beginCycle = .next u) : s.AgentLeaves u
  | command {u : State} {i : Instr} (hT : s.turn = .foreground) (hi : s.fetch = .ok i)
      (hu : exec i s.beginCycle = .next u) : s.AgentLeaves u
  | illegal {r : Reject} (hT : s.turn = .foreground) (hi : s.fetch = .error r) :
      s.AgentLeaves (s.beginCycle.raiseFault .illegalCommand)

/-- Outside reset a step is what its agent leaves, and the clock edge. -/
theorem agentLeaves_of_step {s t : State} (hr : s.inp.rst = false) (h : step s = .next t) :
    ∃ u, s.AgentLeaves u ∧ t = s.endCycle u := by
  rcases step_cases h with ⟨hT, _⟩ | ⟨hT, ht⟩ | ⟨hT, u, hu, ht⟩ | ⟨hT, i, u, hi, hu, ht⟩ | ⟨hT, ⟨r, hi⟩, ht⟩
  · exact absurd hT (s.turn_ne_reset hr)
  · exact ⟨_, .idle hT, ht⟩
  · exact ⟨u, .handler hT hu, ht⟩
  · exact ⟨u, .command hT hi hu, ht⟩
  · exact ⟨_, .illegal hT hi, ht⟩

namespace State.AgentLeaves

variable {s u : State}

/-- No agent writes the parameters, the counter, `CMDREG`, `RAW` or the inputs to come. -/
theorem frame (h : s.AgentLeaves u) :
    u = { u with cfg := s.cfg, cnt := s.cnt, cmdreg := s.cmdreg, raw := s.raw, tape := s.tape } := by
  cases h with
  | idle hT => rfl
  | handler hT hu => exact exec_frame (s := s.beginCycle) (i := .update) hu
  | command hT hi hu => exact exec_frame (s := s.beginCycle) hu
  | illegal hT hi => rfl

theorem cfg_eq (h : s.AgentLeaves u) : u.cfg = s.cfg := (congrArg State.cfg h.frame :)

theorem cmdreg_eq (h : s.AgentLeaves u) : u.cmdreg = s.cmdreg := (congrArg State.cmdreg h.frame :)

theorem raw_eq (h : s.AgentLeaves u) : u.raw = s.raw := (congrArg State.raw h.frame :)

/-- Where it is not the foreground's turn, nothing but the filter and the handler's registers is written, and the
output pulses of the cycle before end. -/
theorem frozen (h : s.AgentLeaves u) (hT : s.turn ≠ .foreground) :
    u = { s.beginCycle with
      acc := u.acc, ring := u.ring, filt := u.filt, cursor := u.cursor, scanPend := u.scanPend
      updActive := u.updActive, updCh := u.updCh, scanAck := u.scanAck } := by
  cases h with
  | idle _ => rfl
  | handler _ hu => exact execUpdate_frame hu
  | command hF _ _ => exact absurd hF hT
  | illegal hF _ => exact absurd hF hT

/-- At `IDLE` no agent moves the sequencer. -/
theorem seq_of_idle (h : s.AgentLeaves u) (hs : s.seq = .idle) : u.seq = .idle := by
  have hT : s.turn ≠ .foreground := fun hT => (s.runs_of_foreground hT).2 hs
  rw [h.frozen hT]
  exact hs

/-- `CTEN` alone sets `CNT_EN` (`10_state.md` R26). -/
theorem cntEn_eq (h : s.AgentLeaves u) :
    u.cntEn = (s.cntEn || decide (s.turn = .foreground ∧ s.fetch = .ok .cten)) := by
  cases h with
  | idle hT => simp [hT]
  | handler hT hu => rw [execUpdate_frame hu]; simp [hT]
  | @command _ i hT hi hu =>
    by_cases hc : i = .cten
    · subst hc; cases hu; simp [hT, hi]
    · rw [exec_keeps_cntEn hu hc]; simp [hi, hc]
  | illegal hT hi => simp [hi]

/-- `ACQINIT` alone sets `IRQ_ARMED` (`10_state.md` R42). -/
theorem irqArmed_eq (h : s.AgentLeaves u) :
    u.irqArmed = (s.irqArmed || decide (s.turn = .foreground ∧ s.fetch = .ok .acqinit)) := by
  cases h with
  | idle hT => simp [hT]
  | handler hT hu => rw [execUpdate_frame hu]; simp [hT]
  | @command _ i hT hi hu =>
    by_cases ha : i = .acqinit
    · subst ha; cases hu; simp [hT, hi]
    · have hu' : i ≠ .update := fun h => s.fetch_ne_update (h ▸ hi)
      rw [exec_keeps_filter hu hu' ha]; simp [hi, ha]
  | illegal hT hi => simp [hi]

/-- A cycle that is not `TXINIT`'s writes neither `F_HZ` nor the table (`41_color_transmitter.md` R122). -/
theorem table_eq (h : s.AgentLeaves u) (hn : ¬ (s.turn = .foreground ∧ ∃ f, s.fetch = .ok (.txinit f))) :
    u = { u with fHz := s.fHz, t0h := s.t0h, t0l := s.t0l, t1h := s.t1h, t1l := s.t1l, trst := s.trst } := by
  cases h with
  | idle hT => rfl
  | handler hT hu => exact exec_keeps_table (s := s.beginCycle) (i := .update) hu (fun f => by simp)
  | command hT hi hu => exact exec_keeps_table (s := s.beginCycle) hu (fun f hf => hn ⟨hT, f, hf ▸ hi⟩)
  | illegal hT hi => rfl

/-- A cycle that is not a frame's leaves the frame's registers as they were. -/
theorem frameRegs_eq (h : s.AgentLeaves u)
    (hn : ¬ (s.turn = .foreground ∧ ∃ color, s.frameColor = some color)) :
    u = { u with line := s.line, irqMask := s.irqMask, shift := s.shift, bitcnt := s.bitcnt, ovhc := s.ovhc } := by
  cases h with
  | idle hT => rfl
  | handler hT hu =>
    exact exec_keeps_frameRegs (s := s.beginCycle) (i := .update) hu (fun _ => by simp) (fun _ => by simp)
  | command hT hi hu =>
    refine exec_keeps_frameRegs (s := s.beginCycle) hu ?_ ?_
    · intro color hc
      exact hn ⟨hT, color, by simp [State.frameColor, hi, hc]⟩
    · intro idx hc
      exact hn ⟨hT, s.cfg.palette[paletteSlot idx], by simp [State.frameColor, hi, hc]⟩
  | illegal hT hi => rfl

/-- A cycle that is neither the handler's nor `ACQINIT`'s leaves the filter as it was (`20_memory.md` R60). -/
theorem filter_eq (h : s.AgentLeaves u) (hH : s.turn ≠ .handler)
    (ha : ¬ (s.turn = .foreground ∧ s.fetch = .ok .acqinit)) :
    u = { u with ring := s.ring, acc := s.acc, filt := s.filt, cursor := s.cursor } := by
  cases h with
  | idle hT => rfl
  | handler hT hu => exact absurd hT hH
  | @command _ i hT hi hu =>
    have hu' : i ≠ .update := fun h => s.fetch_ne_update (h ▸ hi)
    have ha' : i ≠ .acqinit := fun h => ha ⟨hT, h ▸ hi⟩
    rw [exec_keeps_filter hu hu' ha']
    rfl
  | illegal hT hi => rfl

end State.AgentLeaves

/-! ## The operation placed for the next step (log 4) -/

theorem decode_of_decodeTableWord {n w : Nat} {i : Instr} (h : decodeTableWord n w = some i) :
    decode (tableCode n w) = .ok i := by
  unfold decodeTableWord at h
  split at h
  · rename_i j hj
    rw [hj, Option.some.inj h]
  · cases h

/-- The states acceptance can lead to. -/
theorem startSeq_cases (op : Opcode) : startSeq op = .exec ∨ startSeq op = .slpWait ∨ startSeq op = .txEnter := by
  unfold startSeq
  split
  · exact .inr (.inl rfl)
  · split
    · exact .inr (.inr rfl)
    · exact .inl rfl

theorem startSeq_ne_idle (op : Opcode) : startSeq op ≠ .idle := by
  rcases startSeq_cases op with h | h | h <;> simp [h]

theorem State.withCommand_turn (s : State) (w : CmdWord) : (s.withCommand w).turn = .foreground := by
  refine State.turn_foreground _ rfl ?_ (startSeq_ne_idle _)
  exact State.foregroundRuns_of_held _ rfl rfl

theorem State.withCommand_fetch (s : State) (w : CmdWord) : (s.withCommand w).fetch = decode (.cmd w) := rfl

theorem State.withEvent_eligible (s : State) : (s.withEvent 1#1).eligible = true := rfl

theorem State.withEvent_turn (s : State) : (s.withEvent 1#1).turn = .handler :=
  State.turn_handler _ rfl rfl (.inr s.withEvent_eligible)

theorem decodeEvt_ok_iff (e : BitVec 1) (i : Instr) : decodeEvt e = .ok i ↔ e = 1#1 ∧ i = .update := by
  unfold decodeEvt
  split <;> simp_all [eq_comm]

/-! ## The first state of a command (`60_exceptions.md` R180) -/

/-- The sequencer state in which a command begins; a word that is none faults in `EXEC` (`60_exceptions.md` R162). -/
def firstSeq : Except Reject Instr → Seq
  | .ok (.sleep _) => .slpWait
  | .ok (.tx _) => .txEnter
  | .ok (.txidx _) => .txEnter
  | _ => .exec

/-- Acceptance of a word leads to the first state of what the word decodes to. -/
theorem startSeq_eq_firstSeq (w : CmdWord) : startSeq (opField w) = firstSeq (decodeCmd w) := by
  simp only [decodeCmd, apply_ite firstSeq]
  by_cases hs : opField w = opSleep
  · rw [hs]; rfl
  · by_cases htx : opField w = opTx
    · rw [htx]; rfl
    · by_cases hti : opField w = opTxidx
      · rw [hti]; rfl
      · simp only [startSeq, firstSeq, hs, htx, hti, if_false, or_self, ite_self]

theorem State.startSeq_cmdreg (s : State) : startSeq (opField s.cmdreg) = firstSeq s.fetch :=
  startSeq_eq_firstSeq s.cmdreg

/-- A fitting sequencer that is not idle is in the one state of its command, or in one of a frame's. -/
theorem seqFits_busy {q : Seq} {op : Opcode} (h : seqFits q op = true) (hq : q ≠ .idle) :
    (startSeq op = .exec → q = .exec) ∧ (startSeq op = .slpWait → q = .slpWait) ∧
      (startSeq op = .txEnter → q ≠ .exec ∧ q ≠ .slpWait) := by
  cases q <;> simp_all [seqFits]

/-- Every state of a frame, `IDLE` after it included, fits `TX` and `TXIDX`. -/
theorem seqFits_of_frame {q : Seq} {op : Opcode} (hop : startSeq op = .txEnter) (hq : q ≠ .exec ∧ q ≠ .slpWait) :
    seqFits q op = true := by
  cases q <;> simp_all [seqFits]

/-- The first state of a word's command fits the word. -/
theorem seqFits_startSeq (op : Opcode) : seqFits (startSeq op) op = true := by
  rcases startSeq_cases op with h | h | h <;> simp [h, seqFits]

/-! ## A wait begun or continued (`10_state.md` R53) -/

/-- `OVHC` is 0 or counts down from `OVH - 1`. -/
abbrev State.OvhcBound (s : State) : Prop := s.ovhc = 0 ∨ s.ovhc.toNat < s.cfg.ovh.toNat

/-- `t` differs from `s` in the registers of a wait alone, and `OVHC` is in its bounds if it was. -/
structure State.WaitOnly (s t : State) : Prop where
  frame : t = { s with goal := t.goal, waiting := t.waiting, ovhc := t.ovhc }
  ovhc : s.OvhcBound → t.OvhcBound

/-- `OVH - 1` is in bounds where there is an overhead. -/
theorem pred_toNat_lt {x : BitVec 31} (h : x ≠ 0) : (x - 1).toNat < x.toNat := by
  bv_omega

theorem State.beginWait_waitOnly (s : State) (t : Word) : s.WaitOnly (s.beginWait t).1 := by
  unfold State.beginWait
  dsimp only
  split
  · split
    · exact ⟨rfl, id⟩
    · next ho => exact ⟨rfl, fun _ => .inr (pred_toNat_lt ho)⟩
  · exact ⟨rfl, id⟩

theorem State.due_waitOnly (s : State) : s.WaitOnly s.due.1 := by
  unfold State.due
  split
  · split
    · split
      · exact ⟨rfl, id⟩
      · next ho => exact ⟨rfl, fun _ => .inr (pred_toNat_lt ho)⟩
    · exact ⟨rfl, id⟩
  · split
    · exact ⟨rfl, id⟩
    · next hne => exact ⟨rfl, fun h => .inr ((pred_toNat_lt hne).trans (h.resolve_left hne))⟩

@[simp] theorem State.due_seq (s : State) : s.due.1.seq = s.seq := by rw [s.due_waitOnly.frame]

@[simp] theorem State.due_line (s : State) : s.due.1.line = s.line := by rw [s.due_waitOnly.frame]

@[simp] theorem State.due_irqMask (s : State) : s.due.1.irqMask = s.irqMask := by rw [s.due_waitOnly.frame]

/-! ## A frame keeps its registers in agreement, however many of its steps fall in one cycle
(`41_color_transmitter.md` R125, R131, R137) -/

/-- The part of `State.Coherent` that a frame's steps write. -/
structure State.FrameCoherent (s : State) : Prop where
  seq : s.seq ≠ .exec ∧ s.seq ≠ .slpWait
  wait : s.WaitRegs
  line : s.line = true → s.seq = .txHigh
  mask : s.irqMask = s.inFrame
  frame : s.FrameRegs

/-- Inside the critical section with bits to send, wherever the sequencer stands. -/
structure State.BitsToSend (s : State) : Prop where
  mask : s.irqMask = true
  pos : s.bitcnt ≠ 0
  le : s.bitcnt.toNat ≤ 24
  shift : s.shift <<< s.bitcnt.toNat = 0
  ovhc : s.OvhcBound

/-- All bits sent and the line low. -/
structure State.BitsSent (s : State) : Prop where
  line : s.line = false
  bitcnt : s.bitcnt = 0
  shift : s.shift = 0
  ovhc : s.OvhcBound

section Steps

variable {s t : State}

theorem State.FrameCoherent.bitsToSend (h : s.FrameCoherent) (hin : s.inFrame = true) : s.BitsToSend := by
  obtain ⟨hle, hpos, hshift⟩ := h.frame
  obtain ⟨_, _, hovhc⟩ := h.wait
  exact ⟨h.mask.trans hin, hpos.1 hin, hle, hshift, hovhc⟩

theorem State.BitsToSend.frameCoherent_high (h : s.BitsToSend) (hq : s.seq = .txHigh) (hl : s.line = true) :
    s.FrameCoherent where
  seq := by simp [hq]
  wait := ⟨by simp [State.beforeWait, hq, hl], by simp [hq], h.ovhc⟩
  line := fun _ => hq
  mask := by simp [h.mask, State.inFrame, hq]
  frame := ⟨h.le, by simpa [State.inFrame, hq] using h.pos, h.shift⟩

theorem State.BitsToSend.frameCoherent_low (h : s.BitsToSend) (hq : s.seq = .txLow) (hl : s.line = false) :
    s.FrameCoherent where
  seq := by simp [hq]
  wait := ⟨by simp [State.beforeWait, hq], by simp [hq], h.ovhc⟩
  line := by simp [hl]
  mask := by simp [h.mask, State.inFrame, hq]
  frame := ⟨h.le, by simpa [State.inFrame, hq] using h.pos, h.shift⟩

theorem State.BitsSent.frameCoherent_gap (h : s.BitsSent) (hq : s.seq = .txGap) (hm : s.irqMask = false) :
    s.FrameCoherent where
  seq := by simp [hq]
  wait := ⟨by simp [State.beforeWait, hq], by simp [hq], h.ovhc⟩
  line := by simp [h.line]
  mask := by simp [hm, State.inFrame, hq]
  frame := by simp [State.FrameRegs, State.inFrame, hq, h.bitcnt, h.shift]

/-- `DONE` after the gap. -/
theorem State.BitsSent.txDone (h : s.BitsSent) (hm : s.irqMask = false) : s.txDone.FrameCoherent where
  seq := by simp
  wait := by simp [State.WaitRegs]
  line := by simp [h.line]
  mask := by simp [hm, State.inFrame]
  frame := by simp [State.FrameRegs, State.inFrame, h.bitcnt, h.shift]

/-- A wait leaves the bits to send as they are. -/
theorem State.BitsToSend.of_wait (h : s.BitsToSend) (hw : s.WaitOnly t) : t.BitsToSend := by
  have hovhc := hw.ovhc h.ovhc
  rw [hw.frame] at hovhc ⊢
  exact ⟨h.mask, h.pos, h.le, h.shift, hovhc⟩

theorem State.BitsSent.of_wait (h : s.BitsSent) (hw : s.WaitOnly t) : t.BitsSent := by
  have hovhc := hw.ovhc h.ovhc
  rw [hw.frame] at hovhc ⊢
  exact ⟨h.line, h.bitcnt, h.shift, hovhc⟩

theorem State.txRise_waitOnly (s : State) : ({ s with line := true, seq := .txHigh } : State).WaitOnly s.txRise.1 :=
  State.beginWait_waitOnly _ _

theorem State.txFall_waitOnly (s : State) : ({ s with line := false, seq := .txLow } : State).WaitOnly s.txFall.1 :=
  State.beginWait_waitOnly _ _

theorem State.txExit_waitOnly (s : State) :
    ({ s with irqMask := false, seq := .txGap } : State).WaitOnly s.txExit.1 :=
  State.beginWait_waitOnly _ _

theorem State.BitsToSend.txRise (h : s.BitsToSend) :
    s.txRise.1.BitsToSend ∧ s.txRise.1.line = true ∧ s.txRise.1.seq = .txHigh := by
  have hlevel : ({ s with line := true, seq := .txHigh } : State).BitsToSend :=
    ⟨h.mask, h.pos, h.le, h.shift, h.ovhc⟩
  refine ⟨hlevel.of_wait s.txRise_waitOnly, ?_⟩
  rw [s.txRise_waitOnly.frame]
  exact ⟨rfl, rfl⟩

theorem State.BitsToSend.txFall (h : s.BitsToSend) :
    s.txFall.1.BitsToSend ∧ s.txFall.1.line = false ∧ s.txFall.1.seq = .txLow := by
  have hlevel : ({ s with line := false, seq := .txLow } : State).BitsToSend :=
    ⟨h.mask, h.pos, h.le, h.shift, h.ovhc⟩
  refine ⟨hlevel.of_wait s.txFall_waitOnly, ?_⟩
  rw [s.txFall_waitOnly.frame]
  exact ⟨rfl, rfl⟩

theorem State.BitsSent.txExit (h : s.BitsSent) :
    s.txExit.1.BitsSent ∧ s.txExit.1.irqMask = false ∧ s.txExit.1.seq = .txGap := by
  have hlevel : ({ s with irqMask := false, seq := .txGap } : State).BitsSent :=
    ⟨h.line, h.bitcnt, h.shift, h.ovhc⟩
  refine ⟨hlevel.of_wait s.txExit_waitOnly, ?_⟩
  rw [s.txExit_waitOnly.frame]
  exact ⟨rfl, rfl⟩

/-- Shifting out one bit leaves one bit less to shift out. -/
theorem State.BitsToSend.txShift_shift (h : s.BitsToSend) : s.txShift.shift <<< s.txShift.bitcnt.toNat = 0 := by
  have hpos := h.pos
  have hn : s.bitcnt.toNat = 1 + (s.bitcnt - 1).toNat := by bv_omega
  have hshift := h.shift
  rw [hn, BitVec.shiftLeft_add] at hshift
  exact hshift

/-- `NEXT` of the last bit. -/
theorem State.BitsToSend.txShift_last (h : s.BitsToSend) (hl : s.line = false) (h1 : s.bitcnt = 1) :
    s.txShift.BitsSent := by
  have hb : s.txShift.bitcnt = 0 := by simp [h1]
  have hshift := h.txShift_shift
  rw [hb] at hshift
  exact ⟨hl, hb, by simpa using hshift, h.ovhc⟩

/-- `NEXT` of an earlier bit. -/
theorem State.BitsToSend.txShift_more (h : s.BitsToSend) (h1 : s.bitcnt ≠ 1) : s.txShift.BitsToSend := by
  have hpos := h.pos
  have hle := h.le
  refine ⟨h.mask, ?_, ?_, h.txShift_shift, h.ovhc⟩
  · rw [State.txShift_bitcnt]; bv_omega
  · rw [State.txShift_bitcnt]; bv_omega

theorem State.BitsSent.txFinish (h : s.BitsSent) : s.txFinish.FrameCoherent := by
  obtain ⟨hsent, hm, hq⟩ := h.txExit
  unfold State.txFinish
  split
  · exact hsent.txDone hm
  · exact hsent.frameCoherent_gap hq hm

/-- `NEXT` and whatever follows it in the cycle, by induction on the bit periods: each one that passes leaves the
registers as a low phase does. -/
theorem State.BitsToSend.txNextWithin (n : Nat) (h : s.BitsToSend) (hq : s.seq = .txLow) (hl : s.line = false) :
    (s.txNextWithin n).FrameCoherent := by
  induction n generalizing s with
  | zero => exact h.frameCoherent_low hq hl
  | succ n ih =>
    rw [State.txNextWithin]
    split
    · next h1 => exact (h.txShift_last hl h1).txFinish
    · next h1 =>
      obtain ⟨hrise, hlr, hqr⟩ := (h.txShift_more h1).txRise
      obtain ⟨hfall, hlf, hqf⟩ := hrise.txFall
      split
      · split
        · exact ih hfall hqf hlf
        · exact hfall.frameCoherent_low hqf hlf
      · exact hrise.frameCoherent_high hqr hlr

theorem State.BitsToSend.txFallOn (h : s.BitsToSend) : s.txFallOn.FrameCoherent := by
  obtain ⟨hfall, hl, hq⟩ := h.txFall
  unfold State.txFallOn
  split
  · exact hfall.txNextWithin 32 hq hl
  · exact hfall.frameCoherent_low hq hl

theorem State.BitsToSend.txRiseOn (h : s.BitsToSend) : s.txRiseOn.FrameCoherent := by
  obtain ⟨hrise, hl, hq⟩ := h.txRise
  unfold State.txRiseOn
  split
  · exact hrise.txFallOn
  · exact hrise.frameCoherent_high hq hl

/-- `ENTER`. -/
theorem State.txEnterStep_frameCoherent (s : State) (color : Color) :
    (s.txEnterStep color).FrameCoherent where
  seq := by simp
  wait := by simp [State.WaitRegs]
  line := by simp
  mask := by simp [State.inFrame]
  frame := ⟨by simp, by simp [State.inFrame], by simp⟩

theorem State.FrameCoherent.bitsSent (h : s.FrameCoherent) (hq : s.seq = .txGap) : s.BitsSent := by
  obtain ⟨_, hin, hshift⟩ := h.frame
  obtain ⟨_, _, hovhc⟩ := h.wait
  have hl : s.line = false := Bool.eq_false_of_not_eq_true fun hl => by simp [h.line hl] at hq
  have hb : s.bitcnt = 0 := by simpa [State.inFrame, hq] using hin
  exact ⟨hl, hb, by simpa [hb] using hshift, hovhc⟩

/-- One cycle of the transmitter, by its states. -/
theorem State.FrameCoherent.txStep {color : Color} (h : s.FrameCoherent)
    (ht : s.txStep color = .next t) : t.FrameCoherent := by
  have hdue := s.due_waitOnly
  unfold State.txStep at ht
  split at ht
  case h_1 => cases ht; exact s.txEnterStep_frameCoherent color
  case h_2 hq =>
    have hbits := h.bitsToSend (by simp [State.inFrame, hq])
    split at ht
    · next hl =>
      split at ht
      · cases ht; exact (hbits.of_wait hdue).txFallOn
      · cases ht; exact (hbits.of_wait hdue).frameCoherent_high (by simp [hq]) (by simp [hl])
    · cases ht; exact hbits.txRiseOn
  case h_3 hq =>
    have hbits := h.bitsToSend (by simp [State.inFrame, hq])
    have hl : s.line = false := Bool.eq_false_of_not_eq_true fun hl => by simp [h.line hl] at hq
    split at ht
    · cases ht; exact (hbits.of_wait hdue).txNextWithin 32 (by simp [hq]) (by simp [hl])
    · cases ht; exact (hbits.of_wait hdue).frameCoherent_low (by simp [hq]) (by simp [hl])
  case h_4 hq =>
    have hm : s.irqMask = false := by simp [h.mask, State.inFrame, hq]
    split at ht
    · cases ht; exact ((h.bitsSent hq).of_wait hdue).txDone (by simp [hm])
    · cases ht; exact ((h.bitsSent hq).of_wait hdue).frameCoherent_gap (by simp [hq]) (by simp [hm])
  all_goals cases ht

end Steps

/-! ## Every agent keeps the control registers in agreement -/

section Agents

variable {s t : State}

theorem State.resetWith_coherent (cfg : AdmittedParams) (raw : Vector Sample 5) (k : Nat) (tape : List Inputs) :
    (State.resetWith cfg raw k tape).Coherent := by
  refine ⟨rfl, ⟨fun _ => ⟨rfl, rfl⟩, fun _ => rfl, .inl rfl⟩, ⟨?_, rfl, fun _ => rfl⟩, ⟨?_, fun _ => rfl, ?_⟩, ?_⟩
  all_goals simp [State.resetWith, State.FrameRegs, State.inFrame]

theorem State.Coherent.frameCoherent (h : s.Coherent) (hq : s.seq ≠ .exec ∧ s.seq ≠ .slpWait) :
    s.FrameCoherent := by
  obtain ⟨_, hwait, ⟨hline, hmask, _⟩, _, hframe⟩ := h
  exact ⟨hq, hwait, hline, hmask, hframe⟩

/-- A frame's step writes the frame's part alone. -/
theorem State.Coherent.of_frame (h : s.Coherent) (ha : s.updActive = false)
    (hop : startSeq (opField s.cmdreg) = .txEnter) (hst : s.FrameOnly t) (ht : t.FrameCoherent) : t.Coherent := by
  obtain ⟨_, _, _, hupd, _⟩ := h
  have hcmd : t.cmdreg = s.cmdreg := by rw [hst]
  have hact : t.updActive = s.updActive := by rw [hst]
  have hupd' : t.UpdateRegs := by rw [hst]; exact hupd
  refine ⟨?_, ht.wait, ⟨ht.line, ht.mask, fun _ => hact.trans ha⟩, hupd', ht.frame⟩
  rw [hcmd]
  exact seqFits_of_frame hop ht.seq

theorem State.Coherent.txStep {color : Color} (h : s.Coherent) (ha : s.updActive = false) (hbusy : s.seq ≠ .idle)
    (hop : startSeq (opField s.cmdreg) = .txEnter) (ht : s.txStep color = .next t) : t.Coherent := by
  obtain ⟨_, _, hq⟩ := seqFits_busy h.1 hbusy
  exact h.of_frame ha hop (State.txStep_frameOnly ht) ((h.frameCoherent (hq hop)).txStep ht)

/-- Outside the bit periods and with no wait begun a command can end. -/
theorem State.Coherent.toIdle (h : s.Coherent) (hin : s.inFrame = false) (hw : s.waiting = false)
    (ho : s.ovhc = 0) : ({ s with seq := .idle } : State).Coherent := by
  obtain ⟨_, _, ⟨hline, hmask, hact⟩, hupd, hframe⟩ := h
  have hl : s.line = false := Bool.eq_false_of_not_eq_true fun hl => by simp [State.inFrame, hline hl] at hin
  rw [State.FrameRegs, hin] at hframe
  exact ⟨rfl, ⟨fun _ => ⟨hw, ho⟩, fun _ => ho, .inl ho⟩, ⟨by simp [hl], hmask.trans hin, hact⟩, hupd, hframe⟩

/-- A command of one step ends. -/
theorem State.Coherent.ends (h : s.Coherent) (hq : s.seq = .exec) : ({ s with seq := .idle } : State).Coherent := by
  obtain ⟨_, ⟨hbefore, _⟩, _⟩ := id h
  obtain ⟨hw, ho⟩ := hbefore (by simp [State.beforeWait, hq])
  exact h.toIdle (by simp [State.inFrame, hq]) hw ho

/-- `SLEEP` uses `WAITING` freely. -/
theorem State.Coherent.setWaiting (h : s.Coherent) (hq : s.seq = .slpWait) (b : Bool) :
    ({ s with waiting := b } : State).Coherent := by
  obtain ⟨hfit, ⟨_, hslp⟩, hrest⟩ := h
  exact ⟨hfit, ⟨by simp [State.beforeWait, hq], hslp⟩, hrest⟩

theorem State.Coherent.sleepStep (h : s.Coherent) (hq : s.seq = .slpWait) (n : Word) :
    (s.sleepStep n).Coherent := by
  obtain ⟨_, ⟨_, hslp, _⟩, _⟩ := id h
  have hend := (h.setWaiting hq false).toIdle (by simp [State.inFrame, hq]) rfl (hslp hq)
  unfold State.sleepStep
  split
  · split
    · exact hend
    · exact h
  · split
    · exact hend
    · exact h.setWaiting hq true

/-- Clearing the filter arms the interrupt with nothing pending. -/
theorem State.Coherent.clearFilter (h : s.Coherent) : s.clearFilter.Coherent := by
  obtain ⟨hfit, hwait, hline, ⟨hch, hch0, _⟩, hframe⟩ := h
  exact ⟨hfit, hwait, hline, ⟨hch, hch0, fun _ => rfl⟩, hframe⟩

/-- The command in execution, by the states it can be in. -/
theorem State.Coherent.exec {i : Instr} (h : s.Coherent) (ha : s.updActive = false) (hbusy : s.seq ≠ .idle)
    (hi : s.fetch = .ok i) (ht : exec i s = .next t) : t.Coherent := by
  have hop : startSeq (opField s.cmdreg) = firstSeq (.ok i) := by rw [s.startSeq_cmdreg, hi]
  obtain ⟨hexec, hslp, _⟩ := seqFits_busy h.1 hbusy
  cases i with
  | update => exact absurd hi s.fetch_ne_update
  | sleep n => cases ht; exact h.sleepStep (hslp hop) n
  | tx color => exact h.txStep ha hbusy hop ht
  | txidx idx => exact h.txStep ha hbusy hop ht
  | acqinit => cases ht; exact h.clearFilter.ends (hexec hop)
  | acqrd ch =>
    simp only [Machine.exec, execAcqrd] at ht
    split at ht <;> cases ht <;> exact h.ends (hexec hop)
  | _ => cases ht; exact h.ends (hexec hop)

/-- A channel step counts the channel, whatever it stores. -/
theorem State.Coherent.nextChannel (h : s.Coherent) (ha : s.updActive = true) (hc : s.updCh.toNat < 5)
    (acc : Vector Word 5) (ring : Vector (Vector Sample 32) 5) (filt : Vector Sample 5) :
    ({ s with acc := acc, ring := ring, filt := filt, updCh := s.updCh + 1 } : State).Coherent := by
  obtain ⟨hfit, hwait, hline, ⟨_, _, harm⟩, hframe⟩ := h
  have hnext : (s.updCh + 1).toNat ≤ 5 := by bv_omega
  exact ⟨hfit, hwait, hline, ⟨fun _ => hnext, by simp [ha], harm⟩, hframe⟩

/-- `UPDATE` counts its channels, and starts only outside the critical section. -/
theorem State.Coherent.execUpdate (h : s.Coherent) (ht : execUpdate s = .next t) : t.Coherent := by
  obtain ⟨hfit, hwait, ⟨hline, hmask, _⟩, ⟨_, _, harm⟩, hframe⟩ := id h
  rcases execUpdate_cases ht with ⟨ha, hc, rfl⟩ | ⟨ha, _, rfl⟩ | ⟨_, he, rfl⟩ | ⟨_, _, rfl⟩
  · rw [State.channelStep_frame]
    exact h.nextChannel ha hc _ _ _
  · exact ⟨hfit, hwait, ⟨hline, hmask, fun _ => rfl⟩, ⟨by simp, fun _ => rfl, fun _ => harm (.inr ha)⟩, hframe⟩
  · obtain ⟨⟨⟨_, harmed⟩, hm⟩, _⟩ : ((s.scanPend = true ∧ s.irqArmed = true) ∧ s.irqMask = false) ∧
        s.updActive = false := by simpa [State.eligible] using he
    exact ⟨hfit, hwait, ⟨hline, hmask, by simp [hm]⟩, ⟨by simp, by simp, fun _ => harmed⟩, hframe⟩
  · exact h

theorem State.AgentLeaves.coherent {u : State} (hu : s.AgentLeaves u) (h : s.Coherent) : u.Coherent := by
  cases hu with
  | idle hT => exact h
  | handler hT hu => exact State.Coherent.execUpdate (s := s.beginCycle) h hu
  | command hT hi hu =>
    have ha := s.updActive_of_foreground hT
    have hbusy := (s.runs_of_foreground hT).2
    exact State.Coherent.exec (s := s.beginCycle) h ha hbusy hi hu
  | illegal hT hi =>
    obtain ⟨hexec, _⟩ := seqFits_busy h.1 (s.runs_of_foreground hT).2
    exact h.ends (hexec (by rw [s.startSeq_cmdreg, hi]; rfl))

/-! ## So does the clock edge -/

/-- A command accepted at `IDLE`. -/
theorem State.Coherent.accept (h : t.Coherent) (hq : t.seq = .idle) (w : CmdWord) :
    ({ t with cmdreg := w, seq := startSeq (opField w) } : State).Coherent := by
  obtain ⟨_, ⟨hbefore, _⟩, ⟨hline, hmask, hact⟩, hupd, hframe⟩ := h
  obtain ⟨hw, ho⟩ := hbefore (by simp [State.beforeWait, hq])
  have hl : t.line = false := Bool.eq_false_of_not_eq_true fun hl => by simp [hline hl] at hq
  have hin : ({ t with cmdreg := w, seq := startSeq (opField w) } : State).inFrame = t.inFrame := by
    rcases startSeq_cases (opField w) with h | h | h <;> simp [State.inFrame, h, hq]
  refine ⟨seqFits_startSeq _, ⟨fun _ => ⟨hw, ho⟩, fun _ => ho, .inl ho⟩, ⟨by simp [hl], ?_, hact⟩, hupd, ?_⟩
  · rw [hin]; exact hmask
  · rw [State.FrameRegs, hin]; exact hframe

/-- An event latched while the interrupt is armed. -/
theorem State.Coherent.latchEvent (h : t.Coherent) (e : Bool) (he : e = true → t.irqArmed = true) :
    ({ t with scanPend := e || t.scanPend } : State).Coherent := by
  obtain ⟨hfit, hwait, hline, ⟨hch, hch0, harm⟩, hframe⟩ := h
  refine ⟨hfit, hwait, hline, ⟨hch, hch0, ?_⟩, hframe⟩
  cases e with
  | true => exact fun _ => he rfl
  | false => exact harm

theorem State.Coherent.endCycle {held : State} (h : t.Coherent) (harm : held.irqArmed = true → t.irqArmed = true)
    (hacc : held.accepts = true → t.seq = .idle) : (held.endCycle t).Coherent := by
  have he : (held.inp.scanDone && held.irqArmed) = true → t.irqArmed = true :=
    fun he => harm (Bool.and_eq_true_iff.1 he).2
  unfold State.endCycle
  cases hb : held.accepts with
  | true => exact (h.accept (hacc hb) held.inp.cmdWord).latchEvent _ he
  | false => exact h.latchEvent _ he

end Agents

/-! ## A frame whose phases have no length (`41_color_transmitter.md` R127; log 8) -/

/-- `s` with `n` bits sent in one cycle without a pulse, and the frame ended. -/
def State.framePassed (s : State) (n : Nat) : State :=
  { s with
    shift := s.shift <<< n, bitcnt := 0, line := false, irqMask := false, seq := .idle
    goal := s.cnt + s.trst, waiting := false, ovhc := 0, resp := some { err := 0, data := 0 } }

/-- No phase of a bit period has a length, and the gap has none. -/
structure State.NoLength (s : State) : Prop where
  bits : ∀ b, s.highLen b = 0 ∧ s.lowLen b = 0
  gap : s.gapLen = 0

/-- `s` after a bit that left no pulse, its fall included. -/
def State.bitPassed (s : State) : State :=
  { s with
    line := false, seq := .txLow, goal := s.cnt + s.lowEntry s.sendBit, waiting := false }

/-- A bit passed, and then `n` more. -/
theorem State.framePassed_bitPassed (s : State) (n : Nat) :
    s.txShift.bitPassed.framePassed n = s.framePassed (n + 1) := by
  have hshift : (s.shift <<< 1) <<< n = s.shift <<< (n + 1) := by rw [← BitVec.shiftLeft_add, Nat.add_comm]
  unfold State.framePassed
  rw [← hshift]
  rfl

section NoLength

variable {s : State}

/-- The bit rises and falls at once. -/
theorem State.NoLength.txRise_txFall (h : s.NoLength) :
    s.txRise.2 = true ∧ s.txRise.1.txFall = (s.bitPassed, true) := by
  have hrise : s.txRise = ({ s with
      line := true, seq := .txHigh, goal := s.cnt + s.highEntry s.sendBit, waiting := false }, true) :=
    State.beginWait_of_zero _ _ (h.bits s.sendBit).1
  rw [hrise]
  exact ⟨rfl, State.beginWait_of_zero _ _ (h.bits s.sendBit).2⟩

theorem State.NoLength.txFinish (h : s.NoLength) (hl : s.line = false) :
    s.txFinish = { s.framePassed 0 with bitcnt := s.bitcnt } := by
  have hexit : s.txExit = ({ s with
      irqMask := false, seq := .txGap, goal := s.cnt + s.trst, waiting := false }, true) :=
    State.beginWait_of_zero _ _ h.gap
  simp [State.txFinish, hexit, State.framePassed, State.txDone, State.respond, hl]

/-- The rest of the frame, by induction on the bits still to send: the bounding argument does not run out. -/
theorem State.NoLength.txNextWithin (h : s.NoLength) (hl : s.line = false) {k n : Nat}
    (hk : s.bitcnt.toNat = k + 1) (hn : k < n) : s.txNextWithin n = s.framePassed (k + 1) := by
  induction k generalizing s n with
  | zero =>
    obtain ⟨m, rfl⟩ : ∃ m, n = m + 1 := ⟨n - 1, by omega⟩
    have h1 : s.bitcnt = 1 := by bv_omega
    rw [State.txNextWithin, if_pos h1, State.NoLength.txFinish (s := s.txShift) ⟨h.bits, h.gap⟩ hl]
    simp [State.framePassed, State.txShift, h1]
  | succ k ih =>
    obtain ⟨m, rfl⟩ : ∃ m, n = m + 1 := ⟨n - 1, by omega⟩
    have h1 : s.bitcnt ≠ 1 := by bv_omega
    have hk' : s.txShift.bitPassed.bitcnt.toNat = k + 1 := by
      rw [State.bitPassed, State.txShift_bitcnt]; bv_omega
    obtain ⟨hrise, hfall⟩ := State.NoLength.txRise_txFall (s := s.txShift) ⟨h.bits, h.gap⟩
    rw [State.txNextWithin, if_neg h1, if_pos hrise, hfall, if_pos rfl,
      ih (s := s.txShift.bitPassed) ⟨h.bits, h.gap⟩ rfl hk' (by omega)]
    exact s.framePassed_bitPassed (k + 1)

theorem State.NoLength.txRiseOn (h : s.NoLength) {k : Nat} (hk : s.bitcnt.toNat = k + 1) :
    s.txRiseOn = s.framePassed (k + 1) := by
  obtain ⟨hrise, hfall⟩ := h.txRise_txFall
  have hk32 : k < 32 := by have := s.bitcnt.isLt; omega
  rw [State.txRiseOn, if_pos hrise, State.txFallOn, hfall, if_pos rfl]
  exact State.NoLength.txNextWithin (s := s.bitPassed) ⟨h.bits, h.gap⟩ rfl hk hk32

end NoLength

end Sys2Proof.Machine

namespace Sys2Proof.Proofs

open Sys2Proof.Machine

/-- Settles O58: reset takes coherent values; otherwise the agent keeps the agreement, and the clock edge does. -/
theorem stepKeepsCoherent : Obligations.StepKeepsCoherent := by
  intro s t h hstep
  cases hr : s.inp.rst with
  | true =>
    rw [step_of_reset s (s.turn_eq_reset hr)] at hstep
    cases hstep
    exact State.resetWith_coherent _ _ _ _
  | false =>
    obtain ⟨u, hu, rfl⟩ := agentLeaves_of_step hr hstep
    refine (hu.coherent h).endCycle ?_ ?_
    · intro harm
      rw [hu.irqArmed_eq, harm, Bool.true_or]
    · intro hacc
      exact hu.seq_of_idle (s.accepts_iff.1 hacc).2.1

/-- Settles O12: the clock edge latches an accepted word, and nothing else writes `CMDREG` or leaves `IDLE`. -/
theorem acceptanceLatchesCommand : Obligations.AcceptanceLatchesCommand := by
  intro s t hr h
  obtain ⟨u, hu, rfl⟩ := agentLeaves_of_step hr h
  refine ⟨fun hacc => ?_, fun hacc => ?_⟩
  · rw [← s.accepts_iff] at hacc
    rw [State.endCycle_cmdreg, State.endCycle_seq, if_pos hacc, if_pos hacc]
    refine ⟨rfl, fun hop => ?_, fun hop => ?_, fun hop => ?_⟩
    · rw [hop]; rfl
    · rcases hop with hop | hop <;> (rw [hop]; rfl)
    · simp_all [startSeq]
  · rw [← s.accepts_iff] at hacc
    refine ⟨by simp [hacc, hu.cmdreg_eq], fun hidle => ?_⟩
    simp [hacc, hu.seq_of_idle hidle]

/-- Settles O13: no agent writes `RAW`, and the clock edge writes the one word its port names. -/
theorem rawWrittenOnlyByItsPort : Obligations.RawWrittenOnlyByItsPort := by
  intro s t hr h c
  obtain ⟨u, hu, rfl⟩ := agentLeaves_of_step hr h
  rw [State.memRead_raw, State.endCycle_raw, rawWrite_getElem, hu.raw_eq, State.memRead_raw]
  split <;> rfl

/-- Settles O15: the turn is not the foreground's, and then only the handler's registers and the filter are written. -/
theorem foregroundFrozenDuringUpdate : Obligations.ForegroundFrozenDuringUpdate := by
  intro s t hr hruns h
  have hT : s.turn ≠ .foreground := fun hT => by simp [(s.runs_of_foreground hT).1] at hruns
  obtain ⟨u, hu, rfl⟩ := agentLeaves_of_step hr h
  rw [hu.frozen hT]
  refine ⟨rfl, rfl, rfl, rfl, rfl, rfl, rfl, rfl, rfl, rfl, rfl, rfl, rfl, rfl, fun hacc => ?_, fun hacc => ?_⟩
  · simp [hacc]
  · exact (s.accepts_iff.1 hacc).2.2

/-- Settles O16: neither a reset nor an agent nor the clock edge writes the parameters. -/
theorem parametersNeverChange : Obligations.ParametersNeverChange := by
  intro s t h
  cases hr : s.inp.rst with
  | true =>
    rw [step_of_reset s (s.turn_eq_reset hr)] at h
    cases h
    exact s.takeReset_cfg
  | false =>
    obtain ⟨u, hu, rfl⟩ := agentLeaves_of_step hr h
    exact hu.cfg_eq

/-- Settles O17: the clock edge leaves both bits as the agent leaves them. -/
theorem armBitsOnlySet : Obligations.ArmBitsOnlySet := by
  intro s t hr h
  obtain ⟨u, hu, rfl⟩ := agentLeaves_of_step hr h
  exact ⟨hu.cntEn_eq, hu.irqArmed_eq⟩

/-- Settles O18: of the agents only `TXINIT` writes `F_HZ` and the table. -/
theorem tableWrittenOnlyByTxinit : Obligations.TableWrittenOnlyByTxinit := by
  intro s t hr h hn
  obtain ⟨u, hu, rfl⟩ := agentLeaves_of_step hr h
  rw [hu.table_eq hn]
  exact ⟨rfl, rfl, rfl, rfl, rfl, rfl⟩

/-- Settles O19: of the agents only a frame's step writes the frame's registers. -/
theorem frameRegistersWrittenOnlyByFrames : Obligations.FrameRegistersWrittenOnlyByFrames := by
  intro s t hr h hn
  obtain ⟨u, hu, rfl⟩ := agentLeaves_of_step hr h
  rw [hu.frameRegs_eq hn]
  exact ⟨rfl, rfl, rfl, rfl, rfl⟩

/-- Settles O20: the filter by its two writers, the palette because it is a parameter. -/
theorem filterWrittenOnlyByUpdateAndAcqinit : Obligations.FilterWrittenOnlyByUpdateAndAcqinit := by
  intro s t hr h
  obtain ⟨u, hu, rfl⟩ := agentLeaves_of_step hr h
  refine ⟨fun hH ha => ?_, fun i => ?_⟩
  · rw [hu.filter_eq hH ha]
    exact ⟨rfl, fun c k => rfl, fun c => ⟨rfl, rfl⟩⟩
  · simp [hu.cfg_eq]

/-- Settles O42: the frame's 24 bits pass in the cycle of the first `RISE`, and shift the colour out. -/
theorem frameWithoutLengthIsOneCycle : Obligations.FrameWithoutLengthIsOneCycle := by
  intro s i hi hq hl hb hbits hgap
  have hpassed : s.txRiseOn = s.framePassed 24 := State.NoLength.txRiseOn ⟨hbits, hgap⟩ (by rw [hb]; rfl)
  have hshift : s.shift <<< 24 = 0 := BitVec.shiftLeft_eq_zero (by decide)
  have hstep (color : Color) : s.txStep color = .next (s.framePassed 24) := by
    simp only [State.txStep, hq, hl, hpassed, Bool.false_eq_true, if_false]
  rw [State.framePassed, hshift] at hstep
  rcases hi with ⟨color, rfl⟩ | ⟨idx, rfl⟩
  · exact hstep color
  · exact hstep _

/-- Settles O6: it is the foreground's turn, and the fetch is the decoding of `CMDREG`. -/
theorem stepRunsCommandInExecution : Obligations.StepRunsCommandInExecution := by
  intro s i hr hruns hbusy hi _
  have hstep : step s = s.finish (exec i s.beginCycle) :=
    step_of_command s i (s.turn_foreground hr hruns hbusy) hi
  refine ⟨?_, ?_, ?_⟩
  · intro t h; rw [hstep]; exact congrArg s.finish h
  · intro r h; rw [hstep]; exact congrArg s.finish h
  · intro r h; rw [hstep]; exact congrArg s.finish h

/-- Settles O7: it is the handler's turn. -/
theorem stepRunsUpdate : Obligations.StepRunsUpdate := by
  intro s hr hg h
  have hel : s.updActive = true ∨ s.eligible = true := h.imp_right fun h => by simp [State.eligible, h]
  have hstep := step_of_handler s (s.turn_handler hr hg hel)
  refine ⟨?_, ?_⟩
  · intro t h; rw [hstep]; exact congrArg s.finish h
  · intro r h; rw [hstep]; exact congrArg s.finish h

/-- Settles O8: a word of 40 bits is a command placed in `CMDREG`, a shorter one the event placed in `SCAN_PEND`. -/
theorem placedWordIsRunNext : Obligations.PlacedWordIsRunNext := by
  refine ⟨fun s w i h => ?_, fun s w i h => ?_⟩
  · exact ⟨s.withCommand_turn _, (s.withCommand_fetch _).trans (decode_of_decodeTableWord h)⟩
  · have hd : decodeEvt (BitVec.ofNat 1 w) = .ok i := decode_of_decodeTableWord h
    obtain ⟨he, hi⟩ := (decodeEvt_ok_iff _ _).1 hd
    have hplaced : s.withFetchWord 8 w = s.withEvent 1#1 := congrArg s.withEvent he
    rw [hplaced]
    exact ⟨hi, s.withEvent_turn, s.withEvent_eligible⟩

/-- Settles O10: the step is `takeReset`, which writes every register. -/
theorem resetTakesResetValues : Obligations.ResetTakesResetValues := by
  intro s hr
  refine ⟨s.takeReset, step_of_reset s (s.turn_eq_reset hr), ?_⟩
  have hring (c : Fin 5) (k : Fin 32) : s.takeReset.memRead (.ring c k) = 0 := by
    simp [State.takeReset, State.resetWith]
  have hout (c : Fin 5) : s.takeReset.memRead (.acc c) = 0 ∧ s.takeReset.memRead (.filt c) = 0 := by
    simp [State.takeReset, State.resetWith]
  exact ⟨rfl, rfl, rfl, rfl, rfl, rfl, rfl, rfl, rfl, rfl, rfl, rfl, rfl, rfl, hring, hout,
    rfl, rfl, rfl, rfl, rfl, rfl, rfl, rfl, rfl, rfl, rfl, rfl⟩

/-- Settles O56: nothing is stored and nothing is in execution. -/
theorem invariantsAtReset : Obligations.InvariantsAtReset := by
  refine ⟨⟨?_, ?_⟩, State.resetWith_coherent _ _ _ _⟩
  · decide
  · decide

end Sys2Proof.Proofs

/-! SUPPORT and the family `20_memory.md`: what stands in `RAW` is carried along by every step that is not the
handler's (R60, R176), and the two stops of `exec` (R64; log 13). -/

namespace Sys2Proof.Machine

/-! ## Another `RAW` under the same step -/

/-- `s` with other words in `RAW`. -/
def State.withRaw (s : State) (raw : Vector Sample 5) : State := { s with raw := raw }

/-- `f` on the next state, if there is one; a stop stays a stop. -/
def mapNext (f : State → State) : Host.Outcome State Fault Refusal → Host.Outcome State Fault Refusal
  | .next t => .next (f t)
  | .fault r => .fault r
  | .refused r => .refused r

section CarriedAlong

variable (s : State) (raw : Vector Sample 5)

/-- A wait that begins says the same of itself whatever `RAW` holds, and leaves `RAW` as it is. -/
theorem State.beginWait_withRaw (t : Word) :
    (s.withRaw raw).beginWait t = ((s.beginWait t).1.withRaw raw, (s.beginWait t).2) := by
  unfold State.beginWait State.withRaw
  dsimp only
  split
  · split <;> rfl
  · rfl

theorem State.due_withRaw : (s.withRaw raw).due = (s.due.1.withRaw raw, s.due.2) := by
  unfold State.due State.withRaw
  dsimp only
  split
  · split
    · split <;> rfl
    · rfl
  · split <;> rfl

theorem State.txRise_withRaw : (s.withRaw raw).txRise = (s.txRise.1.withRaw raw, s.txRise.2) :=
  State.beginWait_withRaw { s with line := true, seq := .txHigh } raw _

theorem State.txFall_withRaw : (s.withRaw raw).txFall = (s.txFall.1.withRaw raw, s.txFall.2) :=
  State.beginWait_withRaw { s with line := false, seq := .txLow } raw _

theorem State.txExit_withRaw : (s.withRaw raw).txExit = (s.txExit.1.withRaw raw, s.txExit.2) :=
  State.beginWait_withRaw { s with irqMask := false, seq := .txGap } raw _

theorem State.txShift_withRaw : (s.withRaw raw).txShift = s.txShift.withRaw raw := rfl

theorem State.txFinish_withRaw : (s.withRaw raw).txFinish = s.txFinish.withRaw raw := by
  simp only [State.txFinish, State.txExit_withRaw]
  split <;> rfl

/-- `NEXT` and whatever follows it in the cycle, by induction on the bit periods. -/
theorem State.txNextWithin_withRaw (n : Nat) :
    (s.withRaw raw).txNextWithin n = (s.txNextWithin n).withRaw raw := by
  induction n generalizing s with
  | zero => rfl
  | succ n ih =>
    have hb : (s.withRaw raw).bitcnt = s.bitcnt := rfl
    simp only [State.txNextWithin, State.txShift_withRaw, State.txFinish_withRaw, State.txRise_withRaw,
      State.txFall_withRaw, ih, hb]
    split
    · rfl
    · split
      · split <;> rfl
      · rfl

theorem State.txFallOn_withRaw : (s.withRaw raw).txFallOn = s.txFallOn.withRaw raw := by
  simp only [State.txFallOn, State.txNext, State.txFall_withRaw, State.txNextWithin_withRaw]
  split <;> rfl

theorem State.txRiseOn_withRaw : (s.withRaw raw).txRiseOn = s.txRiseOn.withRaw raw := by
  simp only [State.txRiseOn, State.txRise_withRaw, State.txFallOn_withRaw]
  split <;> rfl

/-- One cycle of the transmitter, by its states. -/
theorem State.txStep_withRaw (color : Color) :
    (s.withRaw raw).txStep color = mapNext (·.withRaw raw) (s.txStep color) := by
  have hq : (s.withRaw raw).seq = s.seq := rfl
  have hl : (s.withRaw raw).line = s.line := rfl
  simp only [State.txStep, State.txNext, State.due_withRaw, State.txFallOn_withRaw, State.txRiseOn_withRaw,
    State.txNextWithin_withRaw, hq, hl]
  cases s.seq with
  | txHigh =>
    dsimp only
    split
    · split <;> rfl
    · rfl
  | txLow => dsimp only; split <;> rfl
  | txGap => dsimp only; split <;> rfl
  | _ => rfl

theorem State.sleepStep_withRaw (n : Word) : (s.withRaw raw).sleepStep n = (s.sleepStep n).withRaw raw := by
  unfold State.sleepStep State.withRaw
  dsimp only
  split
  · split <;> rfl
  · split <;> rfl

/-- No command reads `RAW`: the same step is taken, or the same stop, whatever it holds. -/
theorem exec_withRaw {i : Instr} (hi : i ≠ .update) :
    exec i (s.withRaw raw) = mapNext (·.withRaw raw) (exec i s) := by
  cases i with
  | update => exact absurd rfl hi
  | sleep n => exact congrArg Host.Outcome.next (s.sleepStep_withRaw raw n)
  | tx color => exact s.txStep_withRaw raw color
  | txidx idx => exact s.txStep_withRaw raw _
  | acqrd ch =>
    simp only [exec, execAcqrd]
    split <;> rfl
  | _ => rfl

/-- The clock edge reads `RAW` for `RAW` alone. -/
theorem State.finish_withRaw (o : Host.Outcome State Fault Refusal) :
    (s.withRaw raw).finish (mapNext (·.withRaw raw) o) = mapNext (·.withRaw (rawWrite raw s.inp)) (s.finish o) := by
  cases o <;> rfl

/-- A cycle that is not the handler's goes the same way whatever `RAW` holds, `RAW` itself apart. -/
theorem step_withRaw (hT : s.turn ≠ .handler) :
    ∃ raw', step (s.withRaw raw) = mapNext (·.withRaw raw') (step s) := by
  have hturn : (s.withRaw raw).turn = s.turn := rfl
  have hfetch : (s.withRaw raw).fetch = s.fetch := rfl
  cases hs : s.turn with
  | handler => exact absurd hs hT
  | reset =>
    rw [step_of_reset s hs, step_of_reset _ (hturn.trans hs)]
    exact ⟨s.takeReset.raw, rfl⟩
  | none =>
    rw [step_of_none s hs, step_of_none _ (hturn.trans hs)]
    exact ⟨rawWrite raw s.inp, rfl⟩
  | foreground =>
    refine ⟨rawWrite raw s.inp, ?_⟩
    cases hf : s.fetch with
    | error r =>
      rw [step_of_illegal s r hs hf, step_of_illegal _ r (hturn.trans hs) (hfetch.trans hf)]
      rfl
    | ok i =>
      have hi : i ≠ .update := fun h => s.fetch_ne_update (h ▸ hf)
      have hexec : exec i (s.withRaw raw).beginCycle = mapNext (·.withRaw raw) (exec i s.beginCycle) :=
        exec_withRaw s.beginCycle raw hi
      rw [step_of_command s i hs hf, step_of_command _ i (hturn.trans hs) (hfetch.trans hf), hexec,
        State.finish_withRaw]

end CarriedAlong

/-! ## The stops of `exec` (log 13) -/

/-- The operation is a frame's. -/
abbrev sendsFrame (i : Instr) : Prop := (∃ color, i = .tx color) ∨ ∃ idx, i = .txidx idx

/-- The sequencer is in none of the transmitter's states. -/
abbrev State.OutsideFrame (s : State) : Prop := s.seq = .idle ∨ s.seq = .exec ∨ s.seq = .slpWait

section Stops

variable {s : State}

theorem State.txStep_of_outside (h : s.OutsideFrame) (color : Color) :
    s.txStep color = .fault .seqIncoherent := by
  rcases h with h | h | h <;> simp [State.txStep, h]

/-- In each of the transmitter's four states there is a step to take. -/
theorem State.txStep_answers (h : ¬ s.OutsideFrame) (color : Color) : ∃ t, s.txStep color = .next t := by
  unfold State.txStep
  cases hq : s.seq with
  | idle => exact absurd (.inl hq) h
  | exec => exact absurd (.inr (.inl hq)) h
  | slpWait => exact absurd (.inr (.inr hq)) h
  | txEnter => exact ⟨_, rfl⟩
  | txHigh =>
    dsimp only
    split
    · split <;> exact ⟨_, rfl⟩
    · exact ⟨_, rfl⟩
  | txLow => dsimp only; split <;> exact ⟨_, rfl⟩
  | txGap => dsimp only; split <;> exact ⟨_, rfl⟩

theorem exec_of_outside {i : Instr} (hi : sendsFrame i) (h : s.OutsideFrame) :
    exec i s = .fault .seqIncoherent := by
  rcases hi with ⟨color, rfl⟩ | ⟨idx, rfl⟩
  · exact State.txStep_of_outside h color
  · exact State.txStep_of_outside h _

theorem execUpdate_of_outOfRange (ha : s.updActive = true) (hc : 6 ≤ s.updCh.toNat) :
    execUpdate s = .fault .updChOutOfRange := by
  have hlt : ¬ s.updCh.toNat < 5 := by omega
  have hne : ¬ s.updCh = 5#3 := by bv_omega
  simp [execUpdate, ha, hlt, hne]

/-- With `UPD_CH` in range there is a step of `UPDATE` to take. -/
theorem execUpdate_answers (h : ¬ (s.updActive = true ∧ 6 ≤ s.updCh.toNat)) : ∃ t, execUpdate s = .next t := by
  unfold execUpdate
  split
  · next ha =>
    split
    · exact ⟨_, rfl⟩
    · next hlt =>
      have h5 : s.updCh = 5 := by
        have hc : ¬ 6 ≤ s.updCh.toNat := fun hc => h ⟨ha, hc⟩
        bv_omega
      rw [if_pos h5]
      exact ⟨_, rfl⟩
  · split <;> exact ⟨_, rfl⟩

/-- An operation answers a next state, or meets one of the two stops. -/
theorem exec_answers_or_stops (i : Instr) (s : State) :
    (∃ t, exec i s = .next t) ∨
    (sendsFrame i ∧ s.OutsideFrame ∧ exec i s = .fault .seqIncoherent) ∨
    (i = .update ∧ (s.updActive = true ∧ 6 ≤ s.updCh.toNat) ∧ exec i s = .fault .updChOutOfRange) := by
  cases i with
  | tx color =>
    by_cases h : s.OutsideFrame
    · exact .inr (.inl ⟨.inl ⟨color, rfl⟩, h, State.txStep_of_outside h color⟩)
    · exact .inl (State.txStep_answers h color)
  | txidx idx =>
    by_cases h : s.OutsideFrame
    · exact .inr (.inl ⟨.inr ⟨idx, rfl⟩, h, State.txStep_of_outside h _⟩)
    · exact .inl (State.txStep_answers h _)
  | update =>
    by_cases h : s.updActive = true ∧ 6 ≤ s.updCh.toNat
    · exact .inr (.inr ⟨rfl, h, execUpdate_of_outOfRange h.1 h.2⟩)
    · exact .inl (execUpdate_answers h)
  | acqrd ch =>
    simp only [exec, execAcqrd]
    split <;> exact .inl ⟨_, rfl⟩
  | _ => exact .inl ⟨_, rfl⟩

/-! ## No coherent state meets a stop (`60_exceptions.md` R180) -/

/-- A frame in execution outside the transmitter's states does not fit `SEQ`. -/
theorem State.not_coherent_of_outside {i : Instr} (hi : sendsFrame i) (h : s.OutsideFrame) (hbusy : s.seq ≠ .idle)
    (hf : s.fetch = .ok i) : ¬ s.Coherent := by
  intro hcoh
  have hop : startSeq (opField s.cmdreg) = .txEnter := by
    rw [s.startSeq_cmdreg, hf]
    rcases hi with ⟨color, rfl⟩ | ⟨idx, rfl⟩ <;> rfl
  obtain ⟨_, _, hframe⟩ := seqFits_busy hcoh.1 hbusy
  obtain ⟨hexec, hslp⟩ := hframe hop
  rcases h with h | h | h
  · exact hbusy h
  · exact hexec h
  · exact hslp h

theorem State.not_coherent_of_outOfRange (ha : s.updActive = true) (hc : 6 ≤ s.updCh.toNat) : ¬ s.Coherent := by
  rintro ⟨_, _, _, ⟨hrange, _⟩, _⟩
  have := hrange ha
  omega

/-- A step answers a next state, or stops in a state whose control registers do not agree. -/
theorem step_answers_or_incoherent (s : State) :
    (∃ t, step s = .next t) ∨ ((∃ r, step s = .fault r) ∧ ¬ s.Coherent) := by
  cases hs : s.turn with
  | reset => exact .inl ⟨_, step_of_reset s hs⟩
  | none => exact .inl ⟨_, step_of_none s hs⟩
  | handler =>
    rw [step_of_handler s hs]
    rcases exec_answers_or_stops .update s.beginCycle with ⟨t, ht⟩ | ⟨hi, _⟩ | ⟨_, ⟨ha, hc⟩, hstop⟩
    · exact .inl ⟨_, congrArg s.finish ht⟩
    · simp [sendsFrame] at hi
    · exact .inr ⟨⟨_, congrArg s.finish hstop⟩, State.not_coherent_of_outOfRange ha hc⟩
  | foreground =>
    cases hf : s.fetch with
    | error r => exact .inl ⟨_, step_of_illegal s r hs hf⟩
    | ok i =>
      rw [step_of_command s i hs hf]
      rcases exec_answers_or_stops i s.beginCycle with ⟨t, ht⟩ | ⟨hi, hout, hstop⟩ | ⟨hu, _⟩
      · exact .inl ⟨_, congrArg s.finish ht⟩
      · have hbusy := (s.runs_of_foreground hs).2
        exact .inr ⟨⟨_, congrArg s.finish hstop⟩, State.not_coherent_of_outside hi hout hbusy hf⟩
      · exact absurd (hu ▸ hf) s.fetch_ne_update

end Stops
end Sys2Proof.Machine

namespace Sys2Proof.Proofs

open Sys2Proof.Machine

/-- Settles O21: the step carries `RAW` along, to a next state or to the same stop. -/
theorem foregroundCannotReadRaw : Obligations.ForegroundCannotReadRaw := by
  intro s raw hT
  obtain ⟨raw', hstep⟩ := step_withRaw s raw hT
  refine ⟨fun t ht => ⟨raw', ?_⟩, fun r hr => ?_⟩
  · exact hstep.trans (congrArg (mapNext (·.withRaw raw')) ht)
  · exact hstep.trans (congrArg (mapNext (·.withRaw raw')) hr)

/-- Settles O60: the two stops with their states, that there is no third, and that no coherent state meets one. -/
theorem incoherentStatesStop : Obligations.IncoherentStatesStop := by
  refine ⟨fun s i hi hout => ?_, fun s ha hc => ?_, fun s i => ?_, fun s => ?_⟩
  · exact ⟨exec_of_outside hi hout, fun hbusy hf => State.not_coherent_of_outside hi hout hbusy hf⟩
  · exact ⟨execUpdate_of_outOfRange ha hc, State.not_coherent_of_outOfRange ha hc⟩
  · rcases exec_answers_or_stops i s with ⟨t, h⟩ | ⟨hi, hout, h⟩ | ⟨hi, ⟨ha, hc⟩, h⟩
    · simp [h]
    · rw [h]
      exact ⟨by simp, fun r hr => .inl ⟨hi, hout, (Host.Outcome.fault.inj hr).symm⟩⟩
    · rw [h]
      exact ⟨by simp, fun r hr => .inr ⟨hi, ha, hc, (Host.Outcome.fault.inj hr).symm⟩⟩
  · rcases step_answers_or_incoherent s with ⟨t, h⟩ | ⟨⟨r, h⟩, hincoh⟩
    · simp [h]
    · rw [h]
      exact ⟨by simp, fun _ _ => hincoh⟩

end Sys2Proof.Proofs

/-! SUPPORT and the family `30_encoding.md`: the ten commands by mnemonic, each with its opcode, its operand bits and
the operation they spell; decoder, encoder and assembler as facts about that table. -/

namespace Sys2Proof

open Sys2Proof.Laws

/-! ## Words and their fields (`30_encoding.md` R80) -/

theorem cmdWord_toNat (op : Opcode) (arg : Word) : (cmdWord op arg).toNat = op.toNat * 2 ^ 32 + arg.toNat := by
  rw [cmdWord, BitVec.toNat_append, ← Nat.shiftLeft_add_eq_or_of_lt arg.isLt, Nat.shiftLeft_eq]

theorem cmdWord_and (op op' : Opcode) (arg arg' : Word) :
    cmdWord op arg &&& cmdWord op' arg' = cmdWord (op &&& op') (arg &&& arg') :=
  BitVec.and_append

/-- Truncation and zero extension back is masking with the low ones. -/
theorem setWidth_setWidth_eq_and (x : Word) (n : Nat) (hn : n ≤ 32) :
    (x.setWidth n).setWidth 32 = x &&& BitVec.ofNat 32 (2 ^ n - 1) := by
  have hle : 2 ^ n ≤ 2 ^ 32 := Nat.pow_le_pow_right (by decide) hn
  have hlt : 2 ^ n - 1 < 2 ^ 32 := by omega
  apply BitVec.eq_of_toNat_eq
  rw [BitVec.toNat_and, BitVec.toNat_ofNat, Nat.mod_eq_of_lt hlt, Nat.and_two_pow_sub_one_eq_mod,
    BitVec.toNat_setWidth_of_le hn, BitVec.toNat_setWidth]

/-- A colour comes back from a word that holds it. -/
@[simp] theorem argColor_setWidth (color : Color) : argColor (color.setWidth 32) = color := by
  simp [argColor]

/-- A palette index comes back from a word that holds it. -/
@[simp] theorem argIdx_setWidth (idx : BitVec 3) : argIdx (idx.setWidth 32) = idx := by
  simp [argIdx]

/-! ## The commands by mnemonic (`30_encoding.md` R83, R84) -/

/-- The mnemonics in the order of `legalOpcodes`. -/
def Mnemonic.all : List Mnemonic :=
  [.cten, .goalc, .goalms, .reached, .sleep, .txinit, .tx, .txidx, .acqinit, .acqrd]

/-- The operation a command spells with the `arg` field `arg`. -/
def Mnemonic.instr (mn : Mnemonic) (arg : Word) : Instr :=
  match mn with
  | .cten => .cten
  | .goalc => .goalc arg
  | .goalms => .goalms arg
  | .reached => .reached arg
  | .sleep => .sleep arg
  | .txinit => .txinit arg
  | .tx => .tx (argColor arg)
  | .txidx => .txidx (argIdx arg)
  | .acqinit => .acqinit
  | .acqrd => .acqrd arg

/-- The bits of `arg` a command reads. -/
def Mnemonic.argMask : Mnemonic → Word
  | .cten => 0
  | .goalc => 0xFFFFFFFF
  | .goalms => 0xFFFFFFFF
  | .reached => 0xFFFFFFFF
  | .sleep => 0xFFFFFFFF
  | .txinit => 0xFFFFFFFF
  | .tx => 0x00FFFFFF
  | .txidx => 0x00000007
  | .acqinit => 0
  | .acqrd => 0xFFFFFFFF

theorem Mnemonic.mem_all (mn : Mnemonic) : mn ∈ Mnemonic.all := by
  cases mn <;> decide

theorem mem_legalOpcodes_iff (op : Opcode) : op ∈ legalOpcodes ↔ ∃ mn : Mnemonic, mn.opcode = op := by
  have hmap : legalOpcodes = Mnemonic.all.map Mnemonic.opcode := rfl
  simp [hmap, Mnemonic.mem_all]

/-- Of the numbers below 256 those of a legal opcode are the ten of the list. -/
theorem legalNumbers_perm :
    ((List.range 256).filter fun n => decide (BitVec.ofNat 8 n ∈ legalOpcodes)).Perm (legalOpcodes.map BitVec.toNat) := by
  have hnodup : (legalOpcodes.map BitVec.toNat).Nodup := by decide
  refine (List.perm_ext_iff_of_nodup (List.nodup_range.filter _) hnodup).2 fun n => ?_
  simp only [List.mem_filter, List.mem_range, decide_eq_true_eq, List.mem_map]
  constructor
  · rintro ⟨hn, hmem⟩
    exact ⟨_, hmem, (BitVec.toNat_ofNat n 8).trans (Nat.mod_eq_of_lt hn)⟩
  · rintro ⟨op, hop, rfl⟩
    exact ⟨op.isLt, by rwa [BitVec.ofNat_toNat, BitVec.setWidth_eq]⟩

theorem length_illegalOpcodes :
    ((List.range 256).filter fun n => decide (BitVec.ofNat 8 n ∉ legalOpcodes)).length = 246 := by
  have hlegal := legalNumbers_perm.length_eq
  have hsum := List.length_eq_length_filter_add (l := List.range 256) fun n => decide (BitVec.ofNat 8 n ∈ legalOpcodes)
  simp only [List.length_map, List.length_range, ← decide_not] at hlegal hsum
  have hten : legalOpcodes.length = 10 := rfl
  omega

theorem readBits_opcode (mn : Mnemonic) : readBits mn.opcode = cmdWord 0xFF mn.argMask := by
  cases mn <;> decide

/-! ## The decoder (`30_encoding.md` R84, R85) -/

theorem decode_of_opcode (mn : Mnemonic) {w : CmdWord} (h : opField w = mn.opcode) :
    decode (.cmd w) = .ok (mn.instr (argField w)) := by
  simp only [decode, decodeCmd, h]
  cases mn <;> rfl

theorem decode_of_illegal {w : CmdWord} (h : opField w ∉ legalOpcodes) :
    decode (.cmd w) = .error (.illegalCommand (opField w)) := by
  simp only [legalOpcodes, List.mem_cons, List.not_mem_nil, or_false, not_or] at h
  simp [decode, decodeCmd, h]

/-- The only words that decode are those with the opcode of a command. -/
theorem opcode_of_decode {w : CmdWord} {i : Instr} (h : decode (.cmd w) = .ok i) :
    ∃ mn : Mnemonic, opField w = mn.opcode ∧ i = mn.instr (argField w) := by
  by_cases hop : opField w ∈ legalOpcodes
  · obtain ⟨mn, hmn⟩ := (mem_legalOpcodes_iff _).1 hop
    rw [decode_of_opcode mn hmn.symm] at h
    exact ⟨mn, hmn.symm, (Except.ok.inj h).symm⟩
  · rw [decode_of_illegal hop] at h
    cases h

theorem decode_cmdWord (mn : Mnemonic) (arg : Word) :
    decode (.cmd (cmdWord mn.opcode arg)) = .ok (mn.instr arg) := by
  rw [decode_of_opcode mn (opField_cmdWord _ _), argField_cmdWord]

/-! ## The encoder (`30_encoding.md` R83) -/

/-- The code of a command's operation keeps the bits of `arg` the command reads, and no others. -/
theorem encode_instr (mn : Mnemonic) (arg : Word) :
    encode (mn.instr arg) = .cmd (cmdWord mn.opcode (arg &&& mn.argMask)) := by
  have hall : arg &&& 0xFFFFFFFF = arg := BitVec.and_allOnes
  cases mn with
  | cten | acqinit => simp [Mnemonic.instr, Mnemonic.argMask, Mnemonic.opcode, encode]
  | tx => exact congrArg (Code.cmd ∘ cmdWord opTx) (setWidth_setWidth_eq_and arg 24 (by decide))
  | txidx => exact congrArg (Code.cmd ∘ cmdWord opTxidx) (setWidth_setWidth_eq_and arg 3 (by decide))
  | _ => rw [Mnemonic.argMask, hall]; rfl

/-- Masking a command's word with its read bits masks `arg` and keeps `op`. -/
theorem and_readBits (mn : Mnemonic) {w : CmdWord} (h : opField w = mn.opcode) :
    w &&& readBits (opField w) = cmdWord mn.opcode (argField w &&& mn.argMask) := by
  have hop : mn.opcode &&& 0xFF = mn.opcode := BitVec.and_allOnes
  calc w &&& readBits (opField w)
      = cmdWord (opField w) (argField w) &&& readBits (opField w) := by rw [cmdWord_fields]
    _ = cmdWord (mn.opcode &&& 0xFF) (argField w &&& mn.argMask) := by rw [h, readBits_opcode, cmdWord_and]
    _ = cmdWord mn.opcode (argField w &&& mn.argMask) := by rw [hop]

/-! ## The assembler (`30_encoding.md` R88) -/

theorem assemble_operand {mn : Mnemonic} {v : Nat} (hmn : mn.hasOperand = true) (hv : v < 2 ^ 32) :
    assemble { mn := mn, operand := some v } = some (cmdWord mn.opcode (BitVec.ofNat 32 v)) := by
  have hwf : AsmLine.wellFormed { mn := mn, operand := some v } = true := by
    simpa [AsmLine.wellFormed, AsmLine.operandPresent, AsmLine.operandInRange, hmn] using hv
  exact if_pos hwf

theorem assemble_noOperand {mn : Mnemonic} (hmn : mn.hasOperand = false) :
    assemble { mn := mn, operand := none } = some (cmdWord mn.opcode 0) := by
  have hwf : AsmLine.wellFormed { mn := mn, operand := none } = true := by
    simp [AsmLine.wellFormed, AsmLine.operandPresent, AsmLine.operandInRange, hmn]
  exact if_pos hwf

end Sys2Proof

namespace Sys2Proof.Machine

/-! ## The two forms of a frame (`30_encoding.md` R89) -/

theorem exec_tx (color : Color) (s : State) : exec (.tx color) s = s.txStep color := rfl

/-- The palette's word is wide enough for its colour, so the colour is sent as it stands there. -/
theorem exec_txidx (idx : BitVec 3) (s : State) : exec (.txidx idx) s = s.txStep s.cfg.palette[paletteSlot idx] := by
  show s.txStep ((s.memRead (.palette (paletteSlot idx))).setWidth 24) = _
  rw [State.memRead_palette, BitVec.setWidth_setWidth_of_le _ (by decide), BitVec.setWidth_eq]

end Sys2Proof.Machine

namespace Sys2Proof.Proofs

open Sys2Proof.Laws Sys2Proof.Machine

/-- Settles O1: the fields of a code give back its opcode and operand, and a narrow operand survives its zero
extension. -/
theorem decodeOfEncode : Obligations.DecodeOfEncode := by
  intro i _
  cases i with
  | cten => exact decode_cmdWord .cten 0
  | goalc n => exact decode_cmdWord .goalc n
  | goalms ms => exact decode_cmdWord .goalms ms
  | reached goal => exact decode_cmdWord .reached goal
  | sleep n => exact decode_cmdWord .sleep n
  | txinit f => exact decode_cmdWord .txinit f
  | tx color =>
    have h := decode_cmdWord .tx (color.setWidth 32)
    rwa [Mnemonic.instr, argColor_setWidth] at h
  | txidx idx =>
    have h := decode_cmdWord .txidx (idx.setWidth 32)
    rwa [Mnemonic.instr, argIdx_setWidth] at h
  | acqinit => exact decode_cmdWord .acqinit 0
  | acqrd ch => exact decode_cmdWord .acqrd ch
  | update => exact (decodeEvt_ok_iff _ _).2 ⟨rfl, rfl⟩

/-- Settles O2: a word that decodes has a command's opcode, and its code keeps the same bits of `arg` as the mask. -/
theorem encodeOfDecode : Obligations.EncodeOfDecode := by
  refine ⟨fun w i h => ?_, fun e i h => ?_⟩
  · obtain ⟨mn, hop, rfl⟩ := opcode_of_decode h
    rw [encode_instr, and_readBits mn hop]
  · obtain ⟨rfl, rfl⟩ := (decodeEvt_ok_iff e i).1 h
    rfl

/-- Settles O3: a legal opcode decodes, so only the others are rejected; ten of the 256 values are legal. -/
theorem illegalOpcodesRejected : Obligations.IllegalOpcodesRejected := by
  have hlegal : ∀ w : CmdWord, opField w ∈ legalOpcodes → ∃ i, decode (.cmd w) = .ok i := by
    intro w hop
    obtain ⟨mn, hmn⟩ := (mem_legalOpcodes_iff _).1 hop
    exact ⟨_, decode_of_opcode mn hmn.symm⟩
  refine ⟨fun w => ⟨fun herr hop => ?_, decode_of_illegal⟩, hlegal, length_illegalOpcodes⟩
  obtain ⟨i, hi⟩ := hlegal w hop
  rw [hi] at herr
  cases herr

/-- Settles O4: the opcode of each word by evaluation, its operation by the decoder's own facts. -/
theorem sampleWordsDecode : Obligations.SampleWordsDecode :=
  ⟨decode_of_opcode .cten rfl, decode_of_opcode .goalc rfl, decode_of_opcode .tx rfl,
    decode_of_opcode .txidx rfl, decode_of_opcode .acqrd rfl, (decodeEvt_ok_iff _ _).2 ⟨rfl, rfl⟩,
    decode_of_illegal (by decide)⟩

/-- Settles O5: the line's word is `{op, arg}`, and an operand below `2^32` fits `arg`. -/
theorem assembledWordHoldsOpcodeAndOperand : Obligations.AssembledWordHoldsOpcodeAndOperand := by
  refine ⟨fun mn v hmn hv => ?_, fun mn hmn => ?_⟩
  · have harg : (BitVec.ofNat 32 v).toNat = v := by rw [BitVec.toNat_ofNat, Nat.mod_eq_of_lt hv]
    refine ⟨_, assemble_operand hmn hv, opField_cmdWord _ _, ?_, ?_⟩
    · rw [argField_cmdWord, harg]
    · rw [cmdWord_toNat, harg]
  · exact ⟨_, assemble_noOperand hmn, by simp [cmdWord_toNat]⟩

/-- Settles O33: both are the frame's step with that colour, in every state. -/
theorem txidxIsTxOfPaletteColor : Obligations.TxidxIsTxOfPaletteColor := by
  intro s idx
  rw [exec_txidx, exec_tx]

end Sys2Proof.Proofs

/-! SUPPORT and the family `40_cycle_timer.md`: the tick along a run, the goal comparison as the commands answer it,
and the cycle of a wait that is not over, which a stopped counter repeats for ever. -/

namespace Sys2Proof.Machine

/-! ## Answers of the Cycle Timer's commands (`40_cycle_timer.md` R103 to R106) -/

theorem exec_reached (goal : Word) (s : State) :
    exec (.reached goal) s = .next (s.respond (if reachedAt s.cnt goal then 1 else 0)) := rfl

theorem exec_sleep (n : Word) (s : State) : exec (.sleep n) s = .next (s.sleepStep n) := rfl

theorem reachedAt_iff_toInt (cnt goal : Word) : reachedAt cnt goal = true ↔ 0 ≤ (cnt - goal).toInt :=
  decide_eq_true_iff

theorem reachedAt_eq_false_iff (cnt goal : Word) : reachedAt cnt goal = false ↔ ¬ (cnt - goal).toNat < 2 ^ 31 := by
  rw [← reachedAt_iff, Bool.not_eq_true]

/-- The reach window: the signed distance from the goal, taken modulo `2^32`. -/
theorem reachedAt_window (c0 n : Word) (e : Nat) :
    reachedAt (c0 + BitVec.ofNat 32 e) (c0 + n) = true ↔ ((e : Int) - n.toNat) % 2 ^ 32 < 2 ^ 31 := by
  have hn : n.toNat < 2 ^ 32 := n.isLt
  rw [reachedAt_after]
  omega

/-- One truncation is enough: the quotient is added modulo `2^32` either way. -/
theorem toNat_add_cycMs (c ms f : Word) :
    (c + cycMs ms f).toNat = (c.toNat + ms.toNat * f.toNat / 1000) % 2 ^ 32 := by
  rw [BitVec.toNat_add, cycMs, BitVec.toNat_ofNat, Nat.add_mod_mod]

/-! ## The tick (`40_cycle_timer.md` R100) -/

section Ticks

variable {s t : State}

theorem State.AgentLeaves.cnt_eq {u : State} (h : s.AgentLeaves u) : u.cnt = s.cnt :=
  (congrArg State.cnt h.frame :)

theorem step_cnt (hr : s.inp.rst = false) (h : step s = .next t) :
    t.cnt = if s.cntEn then s.cnt + 1 else s.cnt := by
  obtain ⟨u, hu, rfl⟩ := agentLeaves_of_step hr h
  rw [State.endCycle_cnt, hu.cnt_eq]

/-- Outside reset nothing stops a running counter. -/
theorem step_keeps_cntEn (hr : s.inp.rst = false) (hen : s.cntEn = true) (h : step s = .next t) :
    t.cntEn = true := by
  obtain ⟨u, hu, rfl⟩ := agentLeaves_of_step hr h
  rw [State.endCycle_cntEn, hu.cntEn_eq, hen, Bool.true_or]

theorem step_inpAt (hr : s.inp.rst = false) (h : step s = .next t) (j : Nat) : t.inpAt j = s.inpAt (j + 1) := by
  obtain ⟨u, _, rfl⟩ := agentLeaves_of_step hr h
  exact endCycle_inpAt s u j

theorem State.NoReset.inp_rst {k : Nat} (h : s.NoReset (k + 1)) : s.inp.rst = false := by
  rw [← s.inpAt_zero]
  exact h 0 k.succ_pos

/-- A run without reset goes on without reset after its first cycle. -/
theorem State.NoReset.after_step {k : Nat} (h : s.NoReset (k + 1)) (hstep : step s = .next t) : t.NoReset k := by
  intro j hj
  rw [step_inpAt (State.NoReset.inp_rst h) hstep]
  exact h (j + 1) (Nat.succ_lt_succ hj)

/-- A run that answers is a first cycle that answers and a run from there. -/
theorem exists_step_of_runFor_succ {k : Nat} (h : runFor (k + 1) s = .next t) :
    ∃ u, step s = .next u ∧ runFor k u = .next t := by
  cases hs : step s with
  | next u => exact ⟨u, rfl, runFor_succ_of_step k hs ▸ h⟩
  | fault r => simp [runFor, hs] at h
  | refused r => simp [runFor, hs] at h

theorem runFor_cnt {k : Nat} (hr : s.NoReset k) (hen : s.cntEn = true) (h : runFor k s = .next t) :
    t.cnt = s.cnt + BitVec.ofNat 32 k ∧ t.cntEn = true := by
  induction k generalizing s with
  | zero =>
    cases h
    exact ⟨(BitVec.add_zero _).symm, hen⟩
  | succ k ih =>
    obtain ⟨u, hstep, hrun⟩ := exists_step_of_runFor_succ h
    have hr0 := State.NoReset.inp_rst hr
    have hu : u.cnt = s.cnt + 1 := by rw [step_cnt hr0 hstep, if_pos hen]
    obtain ⟨hcnt, hen'⟩ := ih (State.NoReset.after_step hr hstep) (step_keeps_cntEn hr0 hen hstep) hrun
    refine ⟨?_, hen'⟩
    calc t.cnt = s.cnt + 1 + BitVec.ofNat 32 k := by rw [hcnt, hu]
      _ = s.cnt + (BitVec.ofNat 32 k + BitVec.ofNat 32 1) := by rw [BitVec.add_assoc, BitVec.add_comm 1]; rfl
      _ = s.cnt + BitVec.ofNat 32 (k + 1) := by rw [BitVec.ofNat_add]

end Ticks

/-! ## A wait that is not over (`40_cycle_timer.md` R108, `41_color_transmitter.md` R137) -/

/-- The sequencer is in a phase of a frame that a wait measures: a high phase begun, a low phase or the gap. -/
abbrev State.InPhase (s : State) : Prop := (s.seq = .txHigh ∧ s.line = true) ∨ s.seq = .txLow ∨ s.seq = .txGap

section Waits

variable {s t : State}

theorem exec_eq_txStep {i : Instr} (hi : sendsFrame i) (s : State) : ∃ color, exec i s = s.txStep color := by
  rcases hi with ⟨color, rfl⟩ | ⟨idx, rfl⟩
  · exact ⟨color, exec_tx color s⟩
  · exact ⟨_, exec_txidx idx s⟩

/-- In each of the three waiting states a step that is not due leaves the bookkeeping of the wait alone. -/
theorem exec_of_not_due {i : Instr} (hi : sendsFrame i) (hq : s.InPhase) (h : s.due = (t, false)) :
    exec i s = .next t := by
  obtain ⟨color, hexec⟩ := exec_eq_txStep hi s
  rw [hexec]
  rcases hq with ⟨hq, hl⟩ | hq | hq
  · simp [State.txStep, hq, hl, h]
  · simp [State.txStep, hq, h]
  · simp [State.txStep, hq, h]

theorem State.due_of_not_reached (hw : s.waiting = true) (hg : reachedAt s.cnt s.goal = false) :
    s.due = (s, false) := by
  simp [State.due, hw, hg]

/-- Only `SLEEP` and the three phases of a frame have a wait to go on with (`10_state.md` R53). -/
theorem State.Coherent.seq_of_waiting (h : s.Coherent) (hw : s.waiting = true) : s.seq = .slpWait ∨ s.InPhase := by
  obtain ⟨_, ⟨hbefore, _⟩, _⟩ := h
  have hb : s.beforeWait ≠ true := fun hb => by simp [(hbefore hb).1] at hw
  cases hq : s.seq with
  | idle | exec | txEnter => exact absurd (by simp [State.beforeWait, hq]) hb
  | slpWait => exact .inl rfl
  | txHigh => exact .inr (.inl ⟨hq, by simpa [State.beforeWait, hq] using hb⟩)
  | txLow => exact .inr (.inr (.inl hq))
  | txGap => exact .inr (.inr (.inr hq))

theorem sleep_of_firstSeq {d : Except Reject Instr} (h : firstSeq d = .slpWait) : ∃ n, d = .ok (.sleep n) := by
  unfold firstSeq at h
  split at h
  · exact ⟨_, rfl⟩
  all_goals cases h

theorem sendsFrame_of_firstSeq {d : Except Reject Instr} (h : firstSeq d = .txEnter) :
    ∃ i, d = .ok i ∧ sendsFrame i := by
  unfold firstSeq at h
  split at h
  · cases h
  · exact ⟨_, rfl, .inl ⟨_, rfl⟩⟩
  · exact ⟨_, rfl, .inr ⟨_, rfl⟩⟩
  · cases h

/-- The command that waits is `SLEEP` or a frame's. -/
theorem State.Coherent.fetch_of_waiting (h : s.Coherent) (hw : s.waiting = true) :
    (∃ n, s.fetch = .ok (.sleep n)) ∨ (s.InPhase ∧ ∃ i, s.fetch = .ok i ∧ sendsFrame i) := by
  have hfit := h.1
  rcases h.seq_of_waiting hw with hq | hq
  · refine .inl (sleep_of_firstSeq ?_)
    rw [← s.startSeq_cmdreg]
    simpa [seqFits, hq] using hfit
  · refine .inr ⟨hq, sendsFrame_of_firstSeq ?_⟩
    rw [← s.startSeq_cmdreg]
    rcases hq with ⟨hq, _⟩ | hq | hq <;> simpa [seqFits, hq] using hfit

/-! ## A wait with the counter stopped (`40_cycle_timer.md` R109) -/

/-- A command waits for a goal that a stopped counter has not reached. -/
structure State.Stalled (s : State) : Prop where
  coherent : s.Coherent
  cntEn : s.cntEn = false
  waiting : s.waiting = true
  goal : reachedAt s.cnt s.goal = false

/-- `t` is as `s` in everything the wait reads and everything the command shows. -/
structure State.SameWait (s t : State) : Prop where
  seq : t.seq = s.seq
  waiting : t.waiting = s.waiting
  goal : t.goal = s.goal
  cnt : t.cnt = s.cnt
  cntEn : t.cntEn = s.cntEn
  line : t.line = s.line
  irqMask : t.irqMask = s.irqMask

theorem State.SameWait.trans {u : State} (h1 : s.SameWait t) (h2 : t.SameWait u) : s.SameWait u where
  seq := h2.seq.trans h1.seq
  waiting := h2.waiting.trans h1.waiting
  goal := h2.goal.trans h1.goal
  cnt := h2.cnt.trans h1.cnt
  cntEn := h2.cntEn.trans h1.cntEn
  line := h2.line.trans h1.line
  irqMask := h2.irqMask.trans h1.irqMask

theorem State.Stalled.beginCycle (h : s.Stalled) : s.beginCycle.Stalled :=
  ⟨h.coherent, h.cntEn, h.waiting, h.goal⟩

theorem State.Stalled.of_sameWait (h : s.Stalled) (ht : t.Coherent) (hst : s.SameWait t) : t.Stalled where
  coherent := ht
  cntEn := hst.cntEn.trans h.cntEn
  waiting := hst.waiting.trans h.waiting
  goal := by rw [hst.cnt, hst.goal]; exact h.goal

theorem State.Stalled.busy (h : s.Stalled) : s.seq ≠ .idle := by
  rcases h.coherent.seq_of_waiting h.waiting with hq | ⟨hq, _⟩ | hq | hq <;> simp [hq]

/-- The command in execution changes nothing. -/
theorem State.Stalled.exec_fetch (h : s.Stalled) : ∃ i, s.fetch = .ok i ∧ exec i s = .next s := by
  rcases h.coherent.fetch_of_waiting h.waiting with ⟨n, hf⟩ | ⟨hq, i, hf, hi⟩
  · refine ⟨_, hf, ?_⟩
    rw [exec_sleep, s.sleepStep_of_not_reached n h.waiting h.goal]
  · exact ⟨i, hf, exec_of_not_due hi hq (State.due_of_not_reached h.waiting h.goal)⟩

/-- So whose turn the cycle is makes no difference to the wait: only the handler finds something to write. -/
theorem State.Stalled.agentLeaves {u : State} (h : s.Stalled) (hu : s.AgentLeaves u) :
    u = { s.beginCycle with
      acc := u.acc, ring := u.ring, filt := u.filt, cursor := u.cursor, scanPend := u.scanPend
      updActive := u.updActive, updCh := u.updCh, scanAck := u.scanAck } := by
  obtain ⟨i, hf, hexec⟩ := h.beginCycle.exec_fetch
  have hf : s.fetch = .ok i := hf
  cases hu with
  | idle hT => rfl
  | handler hT hu => exact execUpdate_frame hu
  | command hT hi hu =>
    rw [hf] at hi
    cases hi
    rw [hexec] at hu
    cases hu
    rfl
  | illegal hT hi => rw [hf] at hi; cases hi

/-- One cycle of a stalled wait, whatever its inputs: the wait is as it was and there is no response. -/
theorem State.Stalled.step_sameWait (h : s.Stalled) (hr : s.inp.rst = false) (hstep : step s = .next t) :
    s.SameWait t ∧ t.resp = none := by
  obtain ⟨u, hu, rfl⟩ := agentLeaves_of_step hr hstep
  have hacc := s.accepts_of_busy h.busy
  rw [h.agentLeaves hu]
  exact
    ⟨{ seq := by simp [hacc]
       waiting := rfl
       goal := rfl
       cnt := by simp [h.cntEn]
       cntEn := rfl
       line := rfl
       irqMask := rfl }, rfl⟩

end Waits

end Sys2Proof.Machine

namespace Sys2Proof.Proofs

open Sys2Proof.Machine

/-- A stalled state has a next one, and that is stalled too. -/
theorem stalled_step {s : State} (h : s.Stalled) (hr : s.inp.rst = false) :
    ∃ t, step s = .next t ∧ t.Stalled ∧ s.SameWait t ∧ t.resp = none := by
  rcases step_answers_or_incoherent s with ⟨t, hstep⟩ | ⟨_, hincoh⟩
  · obtain ⟨hsame, hresp⟩ := h.step_sameWait hr hstep
    exact ⟨t, hstep, h.of_sameWait (stepKeepsCoherent s t h.coherent hstep) hsame, hsame, hresp⟩
  · exact absurd h.coherent hincoh

/-- A stalled wait along a run. -/
theorem stalled_run {s : State} (k : Nat) (h : s.Stalled) (hr : s.NoReset (k + 1)) :
    ∃ t, runFor (k + 1) s = .next t ∧ t.Stalled ∧ s.SameWait t ∧ t.resp = none := by
  induction k generalizing s with
  | zero =>
    obtain ⟨t, hstep, ht⟩ := stalled_step h (State.NoReset.inp_rst hr)
    exact ⟨t, runFor_succ_of_step 0 hstep, ht⟩
  | succ k ih =>
    obtain ⟨u, hstep, hu, hsame, _⟩ := stalled_step h (State.NoReset.inp_rst hr)
    obtain ⟨t, hrun, ht, hsame', hresp⟩ := ih hu (State.NoReset.after_step hr hstep)
    exact ⟨t, (runFor_succ_of_step (k + 1) hstep).trans hrun, ht, hsame.trans hsame', hresp⟩

/-- Settles O30: every cycle leaves the wait as it was and the state stalled, by induction on the cycles. -/
theorem waitWithStoppedCounterHangs : Obligations.WaitWithStoppedCounterHangs := by
  intro s hcoh hen hw hg k hr
  obtain ⟨t, hrun, ht, hsame, hresp⟩ := stalled_run k ⟨hcoh, hen, hw, hg⟩ hr
  have hready : t.cmdReady = false := by simp [State.cmdReady, ht.busy]
  exact ⟨t, hrun, hsame.seq, ht.waiting, hsame.goal, hsame.cnt, hsame.line, hsame.irqMask, hresp, hready⟩

/-- Settles O11: no agent writes `CNT`, and the clock edge ticks; along a run by induction on the cycles. -/
theorem counterTicksEveryCycle : Obligations.CounterTicksEveryCycle :=
  ⟨fun _ _ hr h => step_cnt hr h, fun _ _ _ hr hen h => runFor_cnt hr hen h⟩

/-- Settles O27: the comparison is the window, and the four ranges of `e` lie on their sides of it. -/
theorem reachWindow : Obligations.ReachWindow := by
  intro s c0 n e hcnt
  have hwin : reachedAt s.cnt (c0 + n) = true ↔ ((e : Int) - n.toNat) % 2 ^ 32 < 2 ^ 31 := by
    rw [hcnt]; exact reachedAt_window c0 n e
  have hn : n.toNat < 2 ^ 32 := n.isLt
  refine ⟨_, exec_reached (c0 + n) s, if_congr hwin rfl rfl, ?_, ?_, ?_, ?_⟩
  · intro _ _; exact if_neg (by rw [hwin]; omega)
  · intro _ _ _; exact if_pos (by rw [hwin]; omega)
  · intro _ _ _; exact if_neg (by rw [hwin]; omega)
  · intro _ _; exact if_pos (by rw [hwin]; omega)

/-- Settles O23: the step of `CTEN` is these three writes. -/
theorem ctenArmsCounter : Obligations.CtenArmsCounter := fun _ => rfl

/-- Settles O24: the response is the sum of two words. -/
theorem goalcRespondsSum : Obligations.GoalcRespondsSum :=
  fun s n => ⟨s.cnt + n, BitVec.toNat_add _ _, rfl⟩

/-- Settles O25: the response is the sum with the scaled duration. -/
theorem goalmsRespondsScaledSum : Obligations.GoalmsRespondsScaledSum :=
  fun s ms => ⟨s.cnt + cycMs ms s.fHz, toNat_add_cycMs _ _ _, rfl⟩

/-- Settles O26: the comparison in its two forms. -/
theorem reachedIsSignedComparison : Obligations.ReachedIsSignedComparison := by
  intro s goal
  exact ⟨_, if_congr (reachedAt_iff_toInt s.cnt goal) rfl rfl, if_congr (reachedAt_iff s.cnt goal) rfl rfl,
    exec_reached goal s⟩

/-- Settles O28: the first cycle by the effective length, a later one by the comparison. -/
theorem sleepStepsItsWait : Obligations.SleepStepsItsWait := by
  intro s n
  refine ⟨fun hw => ?_, fun hw => ?_⟩
  · rw [exec_sleep]
    split
    · next h => rw [s.sleepStep_of_eff_zero n hw h]; rfl
    · next h => rw [s.sleepStep_of_eff_pos n hw h]
  · rw [exec_sleep]
    split
    · next h => rw [s.sleepStep_of_reached n hw ((reachedAt_iff _ _).2 h)]; rfl
    · next h => rw [s.sleepStep_of_not_reached n hw ((reachedAt_eq_false_iff _ _).2 h)]

/-- Settles O37: in each of the three waiting states the step is not due. -/
theorem frameWaits : Obligations.FrameWaits := by
  intro s i hi hq hover
  exact exec_of_not_due hi hq (s.due_of_not_over hover)

end Sys2Proof.Proofs

/-! SUPPORT and the family `41_color_transmitter.md`, cycle by cycle: the table's entries, each step of a frame with
the wait it begins, and what a frame leaves alone. -/

namespace Sys2Proof.Machine

/-! ## The table's entries (`41_color_transmitter.md` R120, R121) -/

/-- An entry is the nominal length less the overhead, modulo `2^32`, a difference below 0 included. -/
theorem tableEntry_toNat_emod (p : Params) (d : Nat) (f : Word) :
    (((tableEntry p d f).toNat : Int) - ((d * f.toNat / 1000000000 : Nat) - (p.ovh.toNat : Int))) % 2 ^ 32 = 0 := by
  have ho : p.ovh.toNat < 2 ^ 31 := p.ovh.isLt
  rw [tableEntry, BitVec.toNat_sub, toNat_ovhWord, cycNs, BitVec.toNat_ofNat]
  generalize d * f.toNat / 1000000000 = q
  omega

/-! ## Each step of a frame, with the wait it begins (`41_color_transmitter.md` R137) -/

/-- `s` with the wait for the entry `T` begun, for a phase that has a length. -/
def State.waitBegun (s : State) (T : Word) : State :=
  { s with
    goal := s.cnt + T
    waiting := decide (eff T ≠ 0)
    ovhc := if eff T = 0 then s.cfg.ovh - 1 else s.ovhc }

section Frames

variable {s t : State} {i : Instr}

theorem State.txRiseOn_eq_waitBegun (hp : 1 ≤ s.highLen s.sendBit) :
    s.txRiseOn = ({ s with line := true, seq := .txHigh } : State).waitBegun (s.highEntry s.sendBit) := by
  rw [s.txRiseOn_of_pos hp, s.txRise_of_pos hp]
  rfl

theorem State.txFallOn_eq_waitBegun (hp : 1 ≤ s.lowLen s.sendBit) :
    s.txFallOn = ({ s with line := false, seq := .txLow } : State).waitBegun (s.lowEntry s.sendBit) := by
  rw [s.txFallOn_of_pos hp, s.txFall_of_pos hp]
  rfl

/-- After the shift the bit being sent is the old `SHIFT[22]`. -/
theorem State.txShift_sendBit (s : State) : s.txShift.sendBit = s.shift.getLsbD 22 := by
  simp [State.sendBit]

theorem State.txNext_eq_waitBegun (hb : s.bitcnt ≠ 1) (hp : 1 ≤ s.highLen (s.shift.getLsbD 22)) :
    s.txNext = ({ s.txShift with line := true, seq := .txHigh } : State).waitBegun
      (s.highEntry (s.shift.getLsbD 22)) := by
  rw [← s.txShift_sendBit] at hp ⊢
  rw [s.txNext_of_more hb hp, State.txRise_of_pos s.txShift hp]
  rfl

theorem State.txFinish_eq_waitBegun (hp : 1 ≤ s.gapLen) :
    s.txFinish = ({ s with irqMask := false, seq := .txGap } : State).waitBegun s.trst := by
  rw [State.txFinish, s.txExit_of_pos hp]
  rfl

theorem exec_of_enter (hq : s.seq = .txEnter) (color : Color) :
    exec (.tx color) s = .next (s.txEnterStep color) := by
  rw [exec_tx, State.txStep, hq]

/-- The first `RISE`. -/
theorem exec_of_rise (hi : sendsFrame i) (hq : s.seq = .txHigh) (hl : s.line = false) :
    exec i s = .next s.txRiseOn := by
  obtain ⟨color, hexec⟩ := exec_eq_txStep hi s
  simp [hexec, State.txStep, hq, hl]

/-- `FALL`. -/
theorem exec_of_fall (hi : sendsFrame i) (hq : s.seq = .txHigh) (hl : s.line = true) (hover : s.WaitOver) :
    exec i s = .next s.txFallOn := by
  obtain ⟨color, hexec⟩ := exec_eq_txStep hi s
  simp [hexec, State.txStep, hq, hl, s.due_of_over hover]

/-- `NEXT`. -/
theorem exec_of_next (hi : sendsFrame i) (hq : s.seq = .txLow) (hover : s.WaitOver) :
    exec i s = .next s.txNext := by
  obtain ⟨color, hexec⟩ := exec_eq_txStep hi s
  simp [hexec, State.txStep, hq, s.due_of_over hover]

/-- `NEXT` of the 24th bit, which is `EXIT`. -/
theorem exec_of_exit (hi : sendsFrame i) (hq : s.seq = .txLow) (hb : s.bitcnt = 1) (hover : s.WaitOver) :
    exec i s = .next s.txShift.txFinish := by
  rw [exec_of_next hi hq hover, s.txNext_of_last hb]

/-- `DONE`. -/
theorem exec_of_done (hi : sendsFrame i) (hq : s.seq = .txGap) (hover : s.WaitOver) :
    exec i s = .next s.txDone := by
  obtain ⟨color, hexec⟩ := exec_eq_txStep hi s
  simp [hexec, State.txStep, hq, s.due_of_over hover]

/-! ## A frame answers nothing before its end (`41_color_transmitter.md` R124, R137) -/

/-- `t` has the response of `s` still, or the frame has ended there with its response. -/
def State.RespondsAtEnd (s t : State) : Prop :=
  t.resp = s.resp ∨ (t.resp = some { err := 0, data := 0 } ∧ t.seq = .idle)

theorem State.RespondsAtEnd.of_eq {u : State} (h : t.RespondsAtEnd u) (ht : t.resp = s.resp) :
    s.RespondsAtEnd u :=
  h.imp_left (·.trans ht)

theorem State.WaitOnly.resp (h : s.WaitOnly t) : t.resp = s.resp := by rw [h.frame]

theorem State.txRise_resp (s : State) : s.txRise.1.resp = s.resp := s.txRise_waitOnly.resp

theorem State.txFall_resp (s : State) : s.txFall.1.resp = s.resp := s.txFall_waitOnly.resp

theorem State.txDone_respondsAtEnd (s t : State) : s.RespondsAtEnd t.txDone := .inr ⟨rfl, rfl⟩

theorem State.txFinish_respondsAtEnd (s : State) : s.RespondsAtEnd s.txFinish := by
  unfold State.txFinish
  split
  · exact State.txDone_respondsAtEnd s _
  · exact .inl s.txExit_waitOnly.resp

/-- `NEXT` and whatever follows it in the cycle, by induction on the bit periods. -/
theorem State.txNextWithin_respondsAtEnd (n : Nat) (s : State) : s.RespondsAtEnd (s.txNextWithin n) := by
  induction n generalizing s with
  | zero => exact .inl rfl
  | succ n ih =>
    have hrise : s.txShift.txRise.1.resp = s.resp := State.txRise_resp _
    have hfall : s.txShift.txRise.1.txFall.1.resp = s.resp := (State.txFall_resp _).trans hrise
    rw [State.txNextWithin]
    split
    · exact (State.txFinish_respondsAtEnd _).of_eq s.txShift_resp
    · split
      · split
        · exact (ih _).of_eq hfall
        · exact .inl hfall
      · exact .inl hrise

theorem State.txFallOn_respondsAtEnd (s : State) : s.RespondsAtEnd s.txFallOn := by
  unfold State.txFallOn
  split
  · exact (State.txNextWithin_respondsAtEnd 32 _).of_eq s.txFall_resp
  · exact .inl s.txFall_resp

theorem State.txRiseOn_respondsAtEnd (s : State) : s.RespondsAtEnd s.txRiseOn := by
  unfold State.txRiseOn
  split
  · exact (State.txFallOn_respondsAtEnd _).of_eq s.txRise_resp
  · exact .inl s.txRise_resp

/-- One cycle of the transmitter, by its states. -/
theorem State.txStep_respondsAtEnd {color : Color} (h : s.txStep color = .next t) : s.RespondsAtEnd t := by
  have hdue := s.due_waitOnly.resp
  unfold State.txStep at h
  split at h
  case h_1 => cases h; exact .inl rfl
  case h_2 =>
    split at h
    · split at h
      · cases h; exact (State.txFallOn_respondsAtEnd _).of_eq hdue
      · cases h; exact .inl hdue
    · cases h; exact s.txRiseOn_respondsAtEnd
  case h_3 =>
    split at h
    · cases h; exact (State.txNextWithin_respondsAtEnd 32 _).of_eq hdue
    · cases h; exact .inl hdue
  case h_4 =>
    split at h
    · cases h; exact State.txDone_respondsAtEnd s _
    · cases h; exact .inl hdue
  all_goals cases h

/-! ## The critical section (`41_color_transmitter.md` R125) -/

/-- Under the mask no update starts, and none is active. -/
theorem State.foregroundRuns_of_masked (hm : s.irqMask = true) (ha : s.updActive = false) :
    s.foregroundRuns = true := by
  simp [State.foregroundRuns, State.updStarts, State.eligible, hm, ha]

theorem State.Coherent.inFrame_of_masked (h : s.Coherent) (hm : s.irqMask = true) :
    s.seq = .txHigh ∨ s.seq = .txLow := by
  obtain ⟨_, _, ⟨_, hmask, _⟩, _⟩ := h
  simpa [State.inFrame, hm] using hmask

/-- Under the mask the command in execution is a frame. -/
theorem State.Coherent.sendsFrame_of_masked (h : s.Coherent) (hm : s.irqMask = true) :
    ∃ i, s.fetch = .ok i ∧ sendsFrame i := by
  have hfit := h.1
  apply sendsFrame_of_firstSeq
  rw [← s.startSeq_cmdreg]
  rcases h.inFrame_of_masked hm with hq | hq <;> simpa [seqFits, hq] using hfit

/-- So a cycle under the mask is a frame's step and the clock edge. -/
theorem State.Coherent.step_of_masked (h : s.Coherent) (hm : s.irqMask = true) (hr : s.inp.rst = false)
    (hstep : step s = .next t) : ∃ u, s.beginCycle.FrameOnly u ∧ t = s.endCycle u := by
  obtain ⟨i, hf, hi⟩ := h.sendsFrame_of_masked hm
  obtain ⟨color, hexec⟩ := exec_eq_txStep hi s.beginCycle
  obtain ⟨_, _, ⟨_, _, hact⟩, _⟩ := id h
  have hbusy : s.seq ≠ .idle := by
    rcases h.inFrame_of_masked hm with hq | hq <;> simp [hq]
  have hturn := s.turn_foreground hr (State.foregroundRuns_of_masked hm (hact hm)) hbusy
  rw [step_of_command s i hturn hf, hexec, State.finish_next_iff] at hstep
  obtain ⟨u, hu, ht⟩ := hstep
  exact ⟨u, State.txStep_frameOnly hu, ht⟩

end Frames

/-! ## The length of a frame (`41_color_transmitter.md` R129, R130) -/

/-- Counting over the bits from the other end counts the same bits. -/
theorem countP_frameBit (color : Color) :
    (List.range 24).countP (frameBit color) = (List.range 24).countP fun j => color.getLsbD j := by
  have hrev : (List.range 24).reverse = (List.range 24).map (23 - ·) := by decide
  rw [← List.countP_reverse, hrev, List.countP_map]
  refine List.countP_congr fun j hj => ?_
  have hj : j < 24 := List.mem_range.1 hj
  have hsub : 23 - (23 - j) = j := by omega
  simp [frameBit, hsub]

/-- The first `k` bit periods, by induction: the 1 bits among them and the 0 bits. -/
theorem State.riseAt_eq (s : State) (color : Color) (k : Nat) :
    s.riseAt color k =
      (List.range k).countP (frameBit color) * (s.highLen true + s.lowLen true) +
      (k - (List.range k).countP (frameBit color)) * (s.highLen false + s.lowLen false) := by
  induction k with
  | zero => simp [State.riseAt]
  | succ k ih =>
    have hle : (List.range k).countP (frameBit color) ≤ k := by
      simpa using List.countP_le_length (p := frameBit color) (l := List.range k)
    rw [State.riseAt, ih, List.range_succ, List.countP_append]
    cases hb : frameBit color k with
    | true => simp [hb, Nat.succ_mul]; omega
    | false => simp [hb, Nat.succ_sub hle, Nat.succ_mul]; omega

end Sys2Proof.Machine

namespace Sys2Proof.Proofs

open Sys2Proof.Machine

/-- Settles O31: the five entries are `tableEntry` of the five nominal durations. -/
theorem txinitWritesTable : Obligations.TxinitWritesTable := by
  intro s f
  refine ⟨_, _, _, _, _, ?_, rfl⟩
  simp only [List.forall_mem_cons, List.not_mem_nil, false_implies, implies_true, and_true]
  exact ⟨tableEntry_toNat_emod _ _ _, tableEntry_toNat_emod _ _ _, tableEntry_toNat_emod _ _ _,
    tableEntry_toNat_emod _ _ _, tableEntry_toNat_emod _ _ _⟩

/-- Settles O35: `TXIDX` enters as `TX` of the palette's colour does. -/
theorem frameEnters : Obligations.FrameEnters := by
  intro s hq
  refine ⟨fun color => exec_of_enter hq color, fun idx => ?_⟩
  rw [exec_txidx, ← exec_tx]
  exact exec_of_enter hq _

/-- Settles O36: the first `RISE` begins the wait of the high phase, and `SEQ` is `TX_HIGH` already. -/
theorem frameRises : Obligations.FrameRises := by
  intro s i hi hq hl hp
  rw [exec_of_rise hi hq hl, State.txRiseOn_eq_waitBegun hp, ← hq]
  rfl

/-- Settles O38: with the high phase over, `FALL` begins the wait of the low phase. -/
theorem frameFalls : Obligations.FrameFalls := by
  intro s i hi hq hl hover hp
  rw [exec_of_fall hi hq hl hover, State.txFallOn_eq_waitBegun hp]
  rfl

/-- Settles O39: with the low phase over, `NEXT` shifts and begins the wait of the next high phase. -/
theorem frameGoesToNextBit : Obligations.FrameGoesToNextBit := by
  intro s i hi hq hb hover hp
  rw [exec_of_next hi hq hover, State.txNext_eq_waitBegun hb hp]
  rfl

/-- Settles O40: with the last low phase over, `NEXT` shifts and begins the wait of the gap. -/
theorem frameExits : Obligations.FrameExits := by
  intro s i hi hq hb hover hp
  have hb0 : s.bitcnt - 1 = 0 := by rw [hb]; rfl
  rw [exec_of_exit hi hq hb hover, State.txFinish_eq_waitBegun (s := s.txShift) hp, ← hb0]
  rfl

/-- Settles O41: with the gap over, the step is `DONE`. -/
theorem frameResponds : Obligations.FrameResponds := by
  intro s i hi hq hover
  exact exec_of_done hi hq hover

/-- Settles O34: the transmitter's four states each have a step; every part of it keeps the frame, and answers only
at its end. -/
theorem frameTouchesOnlyItsRegisters : Obligations.FrameTouchesOnlyItsRegisters := by
  intro s i hi hq
  obtain ⟨color, hexec⟩ := exec_eq_txStep hi s
  have hin : ¬ s.OutsideFrame := by
    rcases hq with hq | hq | hq | hq <;> simp [State.OutsideFrame, hq]
  obtain ⟨t, ht⟩ := State.txStep_answers hin color
  exact ⟨t, hexec.trans ht, State.txStep_frameOnly ht, State.txStep_respondsAtEnd ht⟩

/-- Settles O22: under the mask the cycle is a frame's, which writes nothing of the interrupt logic. -/
theorem maskDefersUpdates : Obligations.MaskDefersUpdates := by
  intro s t h hr hm hstep
  obtain ⟨u, hu, rfl⟩ := h.step_of_masked hm hr hstep
  obtain ⟨_, _, ⟨_, _, hact⟩, _⟩ := h
  rw [State.FrameOnly] at hu
  rw [hu]
  refine ⟨hact hm, rfl, fun hpend => ?_⟩
  simp [hpend]

/-- Settles O45: the closed form over all 24 bit periods, the bits counted from the other end. -/
theorem frameLengthCountsOneBits : Obligations.FrameLengthCountsOneBits := by
  intro s color
  rw [State.frameLen, State.riseAt_eq, countP_frameBit]

end Sys2Proof.Proofs

/-! SUPPORT and the family `41_color_transmitter.md`, whole frames: how many cycles a wait has left, the phases of the
24 bit periods with their places in the closed form (R129), and the latch gap (R128, R130). -/

namespace Sys2Proof.Machine

/-! ## The cycles a wait has left (`41_color_transmitter.md` R127, R137) -/

theorem eff_ofNat {k : Nat} (hk : k ≤ 2 ^ 31) : eff (BitVec.ofNat 32 k) = k := by
  have hmod : (BitVec.ofNat 32 k).toNat = k := by rw [BitVec.toNat_ofNat]; omega
  rw [eff, hmod, if_pos hk]

/-- A wait with an effective length is one for that many ticks. -/
theorem ofNat_eff {T : Word} (h : eff T ≠ 0) : BitVec.ofNat 32 (eff T) = T := by
  unfold eff at h ⊢
  split at h
  · next hle => rw [if_pos hle, BitVec.ofNat_toNat, BitVec.setWidth_eq]
  · exact absurd rfl h

theorem eff_le (T : Word) : eff T ≤ 2 ^ 31 := by
  unfold eff
  split <;> omega

/-- The goal `k` ticks ahead is reached when `k` is 0. -/
theorem reachedAt_ahead (c : Word) {k : Nat} (hk : k ≤ 2 ^ 31) :
    reachedAt c (c + BitVec.ofNat 32 k) = true ↔ k = 0 := by
  rw [reachedAt_begin_iff, eff_ofNat hk]

/-- The wait of `s` is over `n` cycles from now: the ticks to the goal and the overhead after them, or what is left of
the overhead. -/
def State.WaitLeft (s : State) (n : Nat) : Prop :=
  (s.waiting = true ∧ ∃ k ≤ 2 ^ 31, s.goal = s.cnt + BitVec.ofNat 32 k ∧ n = k + s.cfg.ovh.toNat) ∨
  (s.waiting = false ∧ n = s.ovhc.toNat)

section Waits

variable {s t : State} {n : Nat}

theorem State.WaitLeft.over (h : s.WaitLeft 0) : s.WaitOver := by
  rcases h with ⟨hw, k, hk, hg, hn⟩ | ⟨hw, hn⟩
  · refine .inl ⟨hw, ?_, ?_⟩
    · rw [hg, reachedAt_ahead _ hk]; omega
    · bv_omega
  · exact .inr ⟨hw, by bv_omega⟩

theorem State.WaitLeft.not_over (h : s.WaitLeft (n + 1)) : ¬ s.WaitOver := by
  rcases h with ⟨hw, k, hk, hg, hn⟩ | ⟨hw, hn⟩
  · rintro (⟨_, hr, ho⟩ | ⟨hw', _⟩)
    · rw [hg, reachedAt_ahead _ hk] at hr
      simp [hr, ho] at hn
    · simp [hw] at hw'
  · rintro (⟨hw', _⟩ | ⟨_, ho⟩)
    · simp [hw] at hw'
    · simp [ho] at hn

/-- A frame's cycle before the wait is over is the bookkeeping of the wait. -/
theorem State.WaitLeft.exec_waits {i : Instr} (h : s.WaitLeft (n + 1)) (hi : sendsFrame i) (hq : s.InPhase) :
    exec i s.beginCycle = .next s.beginCycle.due.1 := by
  refine exec_of_not_due (s := s.beginCycle) hi hq ?_
  rw [State.due_of_not_over s.beginCycle h.not_over]

/-- That cycle leaves one cycle less. -/
theorem State.WaitLeft.tick (h : s.WaitLeft (n + 1)) (hen : s.cntEn = true) :
    (s.endCycle s.beginCycle.due.1).WaitLeft n := by
  rw [State.due_of_not_over s.beginCycle h.not_over]
  rcases h with ⟨hw, k, hk, hg, hn⟩ | ⟨hw, hn⟩
  · have hr := reachedAt_ahead s.cnt hk
    rw [← hg] at hr
    cases k with
    | zero =>
      have hovh : (s.cfg.ovh - 1).toNat = n := by bv_omega
      exact .inr ⟨by simp [hr.2 rfl], by rw [← hovh]; simp [hr.2 rfl, hw]⟩
    | succ k =>
      have hnot : reachedAt s.cnt s.goal = false := by simpa using hr
      refine .inl ⟨by simp [hw, hnot], k, by omega, ?_, by simp; omega⟩
      have hone : BitVec.ofNat 32 (k + 1) = 1 + BitVec.ofNat 32 k := by rw [Nat.add_comm, BitVec.ofNat_add]; rfl
      simp [hen, hg, hone, BitVec.add_assoc]
  · have hovhc : (s.ovhc - 1).toNat = n := by bv_omega
    exact .inr ⟨by simp [hw], by rw [← hovhc]; simp [hw]⟩

/-- A wait begun with the entry `T` lasts `D(T)`, the cycle in which it begins being the first. -/
theorem State.waitBegun_left (s : State) {held : State} {T : Word} (hen : held.cntEn = true)
    (hp : 1 ≤ phaseLen s.cfg.toParams T) :
    (held.endCycle (s.waitBegun T)).WaitLeft (phaseLen s.cfg.toParams T - 1) := by
  unfold phaseLen at hp ⊢
  by_cases h0 : eff T = 0
  · have hovh : (s.cfg.ovh - 1).toNat = s.cfg.ovh.toNat - 1 := by bv_omega
    exact .inr ⟨by simp [State.waitBegun, h0], by rw [h0, Nat.zero_add, ← hovh]; simp [State.waitBegun, h0]⟩
  · obtain ⟨k, hk⟩ := Nat.exists_eq_succ_of_ne_zero h0
    have hle := eff_le T
    refine .inl ⟨by simp [State.waitBegun, h0], k, by omega, ?_, by simp [State.waitBegun]; omega⟩
    have hT : T = 1 + BitVec.ofNat 32 k := by
      rw [← ofNat_eff h0, hk, Nat.succ_eq_add_one, Nat.add_comm, BitVec.ofNat_add]; rfl
    simp only [State.waitBegun, State.endCycle_goal, State.endCycle_cnt, hen, if_true]
    rw [BitVec.add_assoc, ← hT]

end Waits

/-! ## The cycles of one frame -/

theorem State.frameColor_congr {s t : State} (hcfg : t.cfg = s.cfg) (hcmd : t.cmdreg = s.cmdreg) :
    t.frameColor = s.frameColor := by
  unfold State.frameColor State.fetch
  rw [hcfg, hcmd]

/-- The command that sends `color` takes the steps of `TX color`. -/
theorem State.exec_of_frameColor {s : State} {color : Color} (h : s.frameColor = some color) :
    ∃ i, s.fetch = .ok i ∧ exec i s.beginCycle = exec (.tx color) s.beginCycle := by
  unfold State.frameColor at h
  split at h
  · next c hf => cases h; exact ⟨_, hf, rfl⟩
  · next idx hf => cases h; exact ⟨_, hf, exec_txidx idx s.beginCycle⟩
  · cases h

/-- `t`, `k` cycles after `s`, still sends the frame of `color`, with the lengths of `s` and its inputs to come. -/
structure State.Carries (s : State) (color : Color) (k : Nat) (t : State) : Prop where
  frameColor : t.frameColor = some color
  cntEn : t.cntEn = true
  updActive : t.updActive = false
  highLen : ∀ b, t.highLen b = s.highLen b
  lowLen : ∀ b, t.lowLen b = s.lowLen b
  gapLen : t.gapLen = s.gapLen
  inpAt : ∀ j, t.inpAt j = s.inpAt (k + j)

/-- Bit `j` of `color` is being sent: it stands at the head of `SHIFT`, under the mask. -/
structure State.SendsBit (t : State) (color : Color) (j : Nat) : Prop where
  lt : j < 24
  shift : t.shift = color <<< j
  bitcnt : t.bitcnt.toNat + j = 24
  mask : t.irqMask = true
  resp : t.resp = none

/-- `t` is where the closed form for the frame of `s` puts it, `o` cycles after the first `RISE` (R129): before that
`RISE`, or in a phase of bit `j` with `n` cycles of its wait left. -/
inductive State.BitPhase (s : State) (color : Color) (o : Nat) (t : State) : Prop where
  | entered (bit : t.SendsBit color 0) (seq : t.seq = .txHigh) (line : t.line = false) (place : o = 0)
  | high (j n : Nat) (bit : t.SendsBit color j) (seq : t.seq = .txHigh) (line : t.line = true)
      (left : t.WaitLeft n) (place : o + n = s.riseAt color j + s.highLen (frameBit color j))
      (lt : n < s.highLen (frameBit color j))
  | low (j n : Nat) (bit : t.SendsBit color j) (seq : t.seq = .txLow) (line : t.line = false)
      (left : t.WaitLeft n) (place : o + n = s.riseAt color (j + 1)) (lt : n < s.lowLen (frameBit color j))

/-- The 24 bits are sent: mask and line are low, and the colour is used up. -/
structure State.FrameOver (t : State) : Prop where
  mask : t.irqMask = false
  line : t.line = false
  shift : t.shift = 0
  bitcnt : t.bitcnt = 0

/-- `t` is in the latch gap of the frame of `s`, `o` cycles after `EXIT`. -/
structure State.GapPhase (s : State) (o : Nat) (t : State) : Prop extends t.FrameOver where
  seq : t.seq = .txGap
  resp : t.resp = none
  left : ∃ n, o + n = s.gapLen ∧ t.WaitLeft n

/-- The frame has responded. -/
structure State.FrameAnswered (t : State) : Prop extends t.FrameOver where
  seq : t.seq = .idle
  resp : t.resp = some { err := 0, data := 0 }

section Frame

variable {s t u : State} {color : Color} {j k n o : Nat}

theorem State.Carries.inp (h : s.Carries color k t) : t.inp = s.inpAt k := by
  rw [← t.inpAt_zero, h.inpAt, Nat.add_zero]

/-- A cycle of the frame in which the foreground runs is a step of `TX color`, and the frame goes on. -/
theorem State.Carries.step (h : s.Carries color k t) (hr : (s.inpAt k).rst = false)
    (hruns : t.foregroundRuns = true) (hbusy : t.seq ≠ .idle) (hu : exec (.tx color) t.beginCycle = .next u) :
    Machine.step t = .next (t.endCycle u) ∧ s.Carries color (k + 1) (t.endCycle u) := by
  obtain ⟨i, hf, hi⟩ := t.exec_of_frameColor h.frameColor
  have hturn := t.turn_foreground (h.inp ▸ hr) hruns hbusy
  have hframe : t.beginCycle.FrameOnly u := State.txStep_frameOnly (color := color) hu
  rw [State.FrameOnly] at hframe
  refine ⟨?_, ?_⟩
  · rw [step_of_command t i hturn hf, hi, hu]
    rfl
  · have hcfg : u.cfg = t.cfg := by rw [hframe]; rfl
    have hcmd : u.cmdreg = t.cmdreg := by rw [hframe]; rfl
    exact
      { frameColor := by
          rw [← h.frameColor]
          exact State.frameColor_congr hcfg (by simp [t.accepts_of_busy hbusy, hcmd])
        cntEn := by rw [hframe]; exact h.cntEn
        updActive := by rw [hframe]; exact h.updActive
        highLen := fun b => by rw [hframe]; exact h.highLen b
        lowLen := fun b => by rw [hframe]; exact h.lowLen b
        gapLen := by rw [hframe]; exact h.gapLen
        inpAt := fun j => by rw [endCycle_inpAt, h.inpAt]; congr 1; omega }

/-! ## The bit being sent (`41_color_transmitter.md` R126) -/

theorem State.SendsBit.beginCycle (h : t.SendsBit color j) : t.beginCycle.SendsBit color j :=
  ⟨h.lt, h.shift, h.bitcnt, h.mask, rfl⟩

theorem State.SendsBit.sendBit (h : t.SendsBit color j) : t.sendBit = frameBit color j := by
  have hj : ¬ 23 < j := Nat.not_lt.2 (Nat.le_of_lt_succ h.lt)
  rw [State.sendBit, h.shift, BitVec.getLsbD_shiftLeft, frameBit, decide_eq_false hj]
  rfl

/-- `NEXT` brings the next bit to the head. -/
theorem State.SendsBit.txShift (h : t.SendsBit color j) (hj : j + 1 < 24) : t.txShift.SendsBit color (j + 1) where
  lt := hj
  shift := by rw [State.txShift_shift, h.shift, ← BitVec.shiftLeft_add]
  bitcnt := by have := h.bitcnt; rw [State.txShift_bitcnt]; bv_omega
  mask := h.mask
  resp := h.resp

/-- A wait leaves the bit as it is. -/
theorem State.SendsBit.of_wait (h : t.SendsBit color j) (hw : t.WaitOnly u) : u.SendsBit color j := by
  rw [hw.frame]
  exact ⟨h.lt, h.shift, h.bitcnt, h.mask, h.resp⟩

/-- The clock edge does too. -/
theorem State.SendsBit.endCycle (h : u.SendsBit color j) : (t.endCycle u).SendsBit color j :=
  ⟨h.lt, h.shift, h.bitcnt, h.mask, h.resp⟩

/-! ## From phase to phase (`41_color_transmitter.md` R137) -/

/-- A high phase begins. -/
theorem State.SendsBit.rises (hbit : u.SendsBit color j) (hlen : ∀ b, u.highLen b = s.highLen b)
    (hnz : s.PhasesNonzero) (hen : t.cntEn = true) (hacc : t.accepts = false) :
    s.BitPhase color (s.riseAt color j + 1)
      (t.endCycle (({ u with line := true, seq := .txHigh } : State).waitBegun (u.highEntry u.sendBit))) := by
  have hpos := (hnz (frameBit color j)).1
  have hlen : phaseLen u.cfg.toParams (u.highEntry u.sendBit) = s.highLen (frameBit color j) := by
    rw [← hlen, ← hbit.sendBit]; rfl
  have hleft := State.waitBegun_left { u with line := true, seq := .txHigh } hen (hlen ▸ hpos)
  exact .high j _ ⟨hbit.lt, hbit.shift, hbit.bitcnt, hbit.mask, hbit.resp⟩ (by simp [State.waitBegun, hacc]) rfl
    (hlen ▸ hleft) (by omega) (by omega)

/-- A low phase begins. -/
theorem State.SendsBit.falls (hbit : u.SendsBit color j) (hlen : ∀ b, u.lowLen b = s.lowLen b)
    (hnz : s.PhasesNonzero) (hen : t.cntEn = true) (hacc : t.accepts = false) :
    s.BitPhase color (s.riseAt color j + s.highLen (frameBit color j) + 1)
      (t.endCycle (({ u with line := false, seq := .txLow } : State).waitBegun (u.lowEntry u.sendBit))) := by
  have hpos := (hnz (frameBit color j)).2
  have hlen : phaseLen u.cfg.toParams (u.lowEntry u.sendBit) = s.lowLen (frameBit color j) := by
    rw [← hlen, ← hbit.sendBit]; rfl
  have hleft := State.waitBegun_left { u with line := false, seq := .txLow } hen (hlen ▸ hpos)
  exact .low j _ ⟨hbit.lt, hbit.shift, hbit.bitcnt, hbit.mask, hbit.resp⟩ (by simp [State.waitBegun, hacc]) rfl
    (hlen ▸ hleft) (by rw [State.riseAt]; omega) (by omega)

theorem State.BitPhase.busy (h : s.BitPhase color o t) : t.seq ≠ .idle := by
  cases h with
  | entered _ hq | high _ _ _ hq | low _ _ _ hq => simp [hq]

theorem State.BitPhase.bit (h : s.BitPhase color o t) : ∃ j, t.SendsBit color j := by
  cases h with
  | entered hbit | high _ _ hbit | low _ _ hbit => exact ⟨_, hbit⟩

/-- One cycle of the bit periods: a wait goes on, or the next phase begins where the last one ends. -/
theorem State.BitPhase.exec_next (h : s.BitPhase color o t) (hc : s.Carries color k t) (hnz : s.PhasesNonzero)
    (ho : o < s.frameLen color) :
    ∃ u, exec (.tx color) t.beginCycle = .next u ∧ s.BitPhase color (o + 1) (t.endCycle u) := by
  have hi : sendsFrame (.tx color) := .inl ⟨color, rfl⟩
  have hacc := t.accepts_of_busy h.busy
  cases h with
  | entered hbit hq hl ho0 =>
    have hpos : 1 ≤ t.beginCycle.highLen t.beginCycle.sendBit := (hc.highLen _).symm ▸ (hnz _).1
    refine ⟨_, exec_of_rise (s := t.beginCycle) hi hq hl, ?_⟩
    rw [State.txRiseOn_eq_waitBegun hpos, ho0]
    exact hbit.beginCycle.rises hc.highLen hnz hc.cntEn hacc
  | high j n hbit hq hl hleft ho' hn =>
    cases n with
    | zero =>
      have hpos : 1 ≤ t.beginCycle.lowLen t.beginCycle.sendBit := (hc.lowLen _).symm ▸ (hnz _).2
      refine ⟨_, exec_of_fall (s := t.beginCycle) hi hq hl hleft.over, ?_⟩
      rw [State.txFallOn_eq_waitBegun hpos, ← Nat.add_zero o, ho']
      exact hbit.beginCycle.falls hc.lowLen hnz hc.cntEn hacc
    | succ n =>
      refine ⟨_, hleft.exec_waits hi (.inl ⟨hq, hl⟩), ?_⟩
      exact .high j n (hbit.beginCycle.of_wait t.beginCycle.due_waitOnly).endCycle (by simp [hacc, hq])
        (by simp [hl]) (hleft.tick hc.cntEn) (by omega) (by omega)
  | low j n hbit hq hl hleft ho' hn =>
    cases n with
    | zero =>
      have hj : j + 1 < 24 := by
        refine Nat.lt_of_le_of_ne hbit.lt fun hj => ?_
        rw [hj] at ho'
        exact absurd ho' (Nat.ne_of_lt ho)
      have hb : t.bitcnt ≠ 1 := by have := hbit.bitcnt; bv_omega
      have hpos : 1 ≤ t.beginCycle.highLen (t.beginCycle.shift.getLsbD 22) := (hc.highLen _).symm ▸ (hnz _).1
      refine ⟨_, exec_of_next (s := t.beginCycle) hi hq hleft.over, ?_⟩
      rw [State.txNext_eq_waitBegun (s := t.beginCycle) hb hpos, ← Nat.add_zero o, ho', ← State.txShift_sendBit]
      exact (hbit.beginCycle.txShift hj).rises hc.highLen hnz hc.cntEn hacc
    | succ n =>
      refine ⟨_, hleft.exec_waits hi (.inr (.inl hq)), ?_⟩
      exact .low j n (hbit.beginCycle.of_wait t.beginCycle.due_waitOnly).endCycle (by simp [hacc, hq])
        (by simp [hl]) (hleft.tick hc.cntEn) (by omega) (by omega)

/-! ## The closed form of the line (`41_color_transmitter.md` R129) -/

theorem State.riseAt_strictMono (hnz : s.PhasesNonzero) : StrictMono (s.riseAt color) := by
  refine strictMono_nat_of_lt_succ fun j => ?_
  have hpos := (hnz (frameBit color j)).1
  rw [State.riseAt]
  omega

theorem State.lineAt_iff : s.lineAt color o = true ↔
    ∃ j < 24, s.riseAt color j < o ∧ o ≤ s.riseAt color j + s.highLen (frameBit color j) := by
  simp [State.lineAt]

/-- Between a fall and the next rise the closed form is low: the pulses before have ended, the later ones have not
begun. -/
theorem State.lineAt_eq_false (hnz : s.PhasesNonzero)
    (hlo : s.riseAt color j + s.highLen (frameBit color j) < o) (hhi : o ≤ s.riseAt color (j + 1)) :
    s.lineAt color o = false := by
  rw [← Bool.not_eq_true, State.lineAt_iff]
  rintro ⟨i, _, hrise, hfall⟩
  rcases lt_trichotomy i j with hij | rfl | hij
  · have hle : s.riseAt color (i + 1) ≤ s.riseAt color j := (State.riseAt_strictMono hnz).monotone hij
    rw [State.riseAt] at hle
    omega
  · omega
  · have hle : s.riseAt color (j + 1) ≤ s.riseAt color i := (State.riseAt_strictMono hnz).monotone hij
    omega

theorem State.BitPhase.line_eq (h : s.BitPhase color o t) (hnz : s.PhasesNonzero) : t.line = s.lineAt color o := by
  cases h with
  | entered _ _ hl ho =>
    rw [hl, ho, eq_comm, ← Bool.not_eq_true, State.lineAt_iff]
    rintro ⟨_, _, hlt, _⟩
    exact absurd hlt (Nat.not_lt_zero _)
  | high j n hbit _ hl _ ho hn =>
    rw [hl, eq_comm, State.lineAt_iff]
    exact ⟨j, hbit.lt, by omega, by omega⟩
  | low j n _ _ hl _ ho hn =>
    have hend := ho
    rw [State.riseAt] at hend
    rw [hl, State.lineAt_eq_false hnz (j := j) (by omega) (by omega)]

/-- At the end of the 48 phases the last low phase is over. -/
theorem State.BitPhase.last (h : s.BitPhase color (s.frameLen color) t) (hnz : s.PhasesNonzero) :
    t.SendsBit color 23 ∧ t.seq = .txLow ∧ t.line = false ∧ t.WaitOver := by
  have hmono := State.riseAt_strictMono (color := color) hnz
  have hlen : s.frameLen color = s.riseAt color 24 := rfl
  cases h with
  | entered _ _ _ ho =>
    have h24 : s.riseAt color 0 < s.riseAt color 24 := hmono (by decide)
    omega
  | high j n hbit _ _ _ ho _ =>
    have hj : s.riseAt color (j + 1) ≤ s.riseAt color 24 := hmono.monotone hbit.lt
    have hpos := (hnz (frameBit color j)).2
    rw [State.riseAt] at hj
    omega
  | low j n hbit hq hl hleft ho _ =>
    have hj : s.riseAt color (j + 1) ≤ s.riseAt color 24 := hmono.monotone hbit.lt
    have hn : n = 0 := by omega
    have h23 : j = 23 := by
      have heq : j + 1 = 24 := hmono.injective (by omega)
      omega
    subst hn h23
    exact ⟨hbit, hq, hl, hleft.over⟩

/-! ## The bit periods along a run (`41_color_transmitter.md` R125) -/

/-- A frame about to enter its critical section, with the counter running and the line low. -/
structure State.FrameReady (s : State) (color : Color) : Prop where
  seq : s.seq = .txEnter
  frameColor : s.frameColor = some color
  runs : s.foregroundRuns = true
  line : s.line = false
  cntEn : s.cntEn = true
  phases : s.PhasesNonzero

theorem State.FrameReady.enters (h : s.FrameReady color) (hr : (s.inpAt 0).rst = false) :
    ∃ t, step s = .next t ∧ s.Carries color 1 t ∧ s.BitPhase color 0 t := by
  have hbusy : s.seq ≠ .idle := by simp [h.seq]
  have hact : s.updActive = false := by have := h.runs; simp_all [State.foregroundRuns]
  have hc : s.Carries color 0 s :=
    ⟨h.frameColor, h.cntEn, hact, fun _ => rfl, fun _ => rfl, rfl, fun j => by rw [Nat.zero_add]⟩
  obtain ⟨hstep, hc'⟩ := hc.step hr h.runs hbusy (exec_of_enter (s := s.beginCycle) h.seq color)
  refine ⟨_, hstep, hc', .entered ?_ ?_ h.line rfl⟩
  · exact ⟨by decide, (BitVec.shiftLeft_zero color).symm, rfl, rfl, rfl⟩
  · simp [s.accepts_of_busy hbusy]

/-- The bit periods run cycle by cycle, by induction on the cycle: under the mask nothing intervenes. -/
theorem State.FrameReady.run_bits (h : s.FrameReady color) (hr : s.NoReset (s.frameLen color + 1))
    (o : Nat) (ho : o ≤ s.frameLen color) :
    ∃ t, runFor (o + 1) s = .next t ∧ s.Carries color (o + 1) t ∧ s.BitPhase color o t := by
  induction o with
  | zero =>
    obtain ⟨t, hstep, hc, hphase⟩ := h.enters (hr 0 (by omega))
    exact ⟨t, runFor_succ_of_step 0 hstep, hc, hphase⟩
  | succ o ih =>
    obtain ⟨t, hrun, hc, hphase⟩ := ih (by omega)
    obtain ⟨_, hbit⟩ := hphase.bit
    obtain ⟨u, hexec, hnext⟩ := hphase.exec_next hc h.phases ho
    obtain ⟨hstep, hc'⟩ := hc.step (hr (o + 1) (by omega))
      (State.foregroundRuns_of_masked hbit.mask hc.updActive) hphase.busy hexec
    exact ⟨_, (runFor_succ_of_runFor hrun).trans hstep, hc', hnext⟩

/-! ## `EXIT` and the latch gap (`41_color_transmitter.md` R128, R137) -/

/-- With a gap of length 0 the response falls in the cycle of `EXIT` (log 8). -/
theorem State.txFinish_of_zero (hp : s.gapLen = 0) :
    s.txFinish = ({ s with
      irqMask := false, seq := .txGap, goal := s.cnt + s.trst, waiting := false } : State).txDone := by
  have hexit : s.txExit = ({ s with
      irqMask := false, seq := .txGap, goal := s.cnt + s.trst, waiting := false }, true) :=
    State.beginWait_of_zero _ _ hp
  rw [State.txFinish, hexit, if_pos rfl]

theorem State.FrameOver.txDone (h : u.FrameOver) : u.txDone.FrameOver :=
  ⟨h.mask, h.line, h.shift, h.bitcnt⟩

theorem State.FrameOver.endCycle (h : u.FrameOver) : (t.endCycle u).FrameOver :=
  ⟨h.mask, h.line, h.shift, h.bitcnt⟩

/-- `EXIT` clears the mask, whether or not the response follows in its cycle, and leaves line and colour. -/
theorem State.txFinish_frameOver (hl : s.line = false) (hshift : s.shift = 0) (hb : s.bitcnt = 0) :
    s.txFinish.FrameOver := by
  have hexit : s.txExit.1.FrameOver := by
    rw [s.txExit_waitOnly.frame]
    exact ⟨rfl, hl, hshift, hb⟩
  unfold State.txFinish
  split
  · exact hexit.txDone
  · exact hexit

/-- The last shift leaves nothing of the colour. -/
theorem State.SendsBit.exits (h : t.SendsBit color 23) (hl : t.line = false) : t.txShift.txFinish.FrameOver := by
  have hbit := h.bitcnt
  have hshift : t.txShift.shift = 0 := by
    rw [State.txShift_shift, h.shift, ← BitVec.shiftLeft_add]
    exact BitVec.shiftLeft_eq_zero (by decide)
  have hb : t.txShift.bitcnt = 0 := by rw [State.txShift_bitcnt]; bv_omega
  exact State.txFinish_frameOver (s := t.txShift) hl hshift hb

/-- The cycle after the bit periods: `EXIT`, with the response if the gap has no length. -/
theorem State.FrameReady.exits (h : s.FrameReady color) (hc : s.Carries color k t)
    (hphase : s.BitPhase color (s.frameLen color) t) (hr : (s.inpAt k).rst = false) :
    ∃ u, step t = .next u ∧ s.Carries color (k + 1) u ∧ u.FrameOver ∧
      (s.gapLen = 0 → u.FrameAnswered) ∧ (1 ≤ s.gapLen → s.GapPhase 1 u) := by
  obtain ⟨hbit, hq, hl, hover⟩ := hphase.last h.phases
  have hacc := t.accepts_of_busy hphase.busy
  have hb : t.bitcnt = 1 := by have := hbit.bitcnt; bv_omega
  have hlen : t.beginCycle.txShift.gapLen = s.gapLen := hc.gapLen
  have hfin := (hbit.beginCycle.exits hl).endCycle (t := t)
  obtain ⟨hstep, hc'⟩ := hc.step hr (State.foregroundRuns_of_masked hbit.mask hc.updActive) hphase.busy
    (exec_of_exit (s := t.beginCycle) (.inl ⟨color, rfl⟩) hq hb hover)
  refine ⟨_, hstep, hc', hfin, fun hgap => ⟨hfin, ?_, ?_⟩, fun hgap => ⟨hfin, ?_, ?_, s.gapLen - 1, by omega, ?_⟩⟩
  · rw [State.txFinish_of_zero (hlen.trans hgap)]; simp [hacc]
  · rw [State.txFinish_of_zero (hlen.trans hgap)]; rfl
  all_goals rw [← hlen] at hgap; rw [State.txFinish_eq_waitBegun hgap]
  · simp [State.waitBegun, hacc]
  · rfl
  · rw [← hlen]
    exact State.waitBegun_left _ hc.cntEn hgap

/-- One cycle of the gap in which no update is chosen: the wait goes on, or the frame responds. -/
theorem State.GapPhase.next (h : s.GapPhase o t) (hc : s.Carries color k t) (hr : (s.inpAt k).rst = false)
    (hg : (s.inpAt k).updGo = false) :
    ∃ u, step t = .next u ∧ s.Carries color (k + 1) u ∧
      (o < s.gapLen → s.GapPhase (o + 1) u) ∧ (o = s.gapLen → u.FrameAnswered) := by
  have hi : sendsFrame (.tx color) := .inl ⟨color, rfl⟩
  have hbusy : t.seq ≠ .idle := by simp [h.seq]
  have hacc := t.accepts_of_busy hbusy
  have hruns := t.foregroundRuns_of_held hc.updActive (hc.inp ▸ hg)
  obtain ⟨n, ho, hleft⟩ := h.left
  cases n with
  | zero =>
    obtain ⟨hstep, hc'⟩ := hc.step hr hruns hbusy (exec_of_done (s := t.beginCycle) hi h.seq hleft.over)
    have hfin : t.beginCycle.FrameOver := ⟨h.mask, h.line, h.shift, h.bitcnt⟩
    exact ⟨_, hstep, hc', fun hlt => by omega, fun _ => ⟨hfin.txDone.endCycle, by simp [hacc], rfl⟩⟩
  | succ n =>
    obtain ⟨hstep, hc'⟩ := hc.step hr hruns hbusy (hleft.exec_waits hi (.inr (.inr h.seq)))
    have hfin : t.beginCycle.due.1.FrameOver := by
      rw [t.beginCycle.due_waitOnly.frame]
      exact ⟨h.mask, h.line, h.shift, h.bitcnt⟩
    refine ⟨_, hstep, hc', fun _ => ⟨hfin.endCycle, ?_, ?_, n, by omega, hleft.tick hc.cntEn⟩, fun heq => by omega⟩
    · simp [hacc, h.seq]
    · exact t.beginCycle.due_waitOnly.resp

/-- The cycle of `EXIT` along the run. -/
theorem State.FrameReady.run_exit (h : s.FrameReady color) (hr : s.NoReset (s.frameLen color + 2)) :
    ∃ t, runFor (s.frameLen color + 2) s = .next t ∧ s.Carries color (s.frameLen color + 2) t ∧ t.FrameOver ∧
      (s.gapLen = 0 → t.FrameAnswered) ∧ (1 ≤ s.gapLen → s.GapPhase 1 t) := by
  obtain ⟨t, hrun, hc, hphase⟩ := h.run_bits (fun j hj => hr j (by omega)) (s.frameLen color) le_rfl
  obtain ⟨u, hstep, hexit⟩ := h.exits hc hphase (hr _ (by omega))
  exact ⟨u, (runFor_succ_of_runFor hrun).trans hstep, hexit⟩

/-- The gap runs cycle by cycle, by induction on the cycle, where the schedule chooses no update. -/
theorem State.FrameReady.run_gap (h : s.FrameReady color) (hr : s.NoReset (s.frameLen color + s.gapLen + 2))
    (hg : s.NoUpdate (s.frameLen color + s.gapLen + 2)) (o : Nat) (h1 : 1 ≤ o) (ho : o ≤ s.gapLen) :
    ∃ t, runFor (s.frameLen color + 1 + o) s = .next t ∧ s.Carries color (s.frameLen color + 1 + o) t ∧
      s.GapPhase o t := by
  induction o, h1 using Nat.le_induction with
  | base =>
    obtain ⟨t, hrun, hc, _, _, hgap⟩ := h.run_exit fun j hj => hr j (by omega)
    exact ⟨t, hrun, hc, hgap ho⟩
  | succ o _ ih =>
    obtain ⟨t, hrun, hc, hgap⟩ := ih (by omega)
    obtain ⟨u, hstep, hc', hnext, _⟩ := hgap.next hc (hr _ (by omega)) (hg _ (by omega))
    exact ⟨u, (runFor_succ_of_runFor hrun).trans hstep, hc', hnext ho⟩

/-- The response along the run, in the cycle of `EXIT` or `DRST` later (R130). -/
theorem State.FrameReady.run_answers (h : s.FrameReady color)
    (hr : s.NoReset (s.frameLen color + s.gapLen + 2)) (hg : s.NoUpdate (s.frameLen color + s.gapLen + 2)) :
    ∃ t, runFor (s.frameLen color + s.gapLen + 2) s = .next t ∧ t.FrameAnswered := by
  rcases Nat.eq_zero_or_pos s.gapLen with h0 | hpos
  · obtain ⟨t, hrun, _, _, hdone, _⟩ := h.run_exit fun j hj => hr j (by omega)
    rw [h0]
    exact ⟨t, hrun, hdone h0⟩
  · obtain ⟨t, hrun, hc, hgap⟩ := h.run_gap hr hg s.gapLen hpos le_rfl
    obtain ⟨u, hstep, _, _, hdone⟩ := hgap.next hc (hr _ (by omega)) (hg _ (by omega))
    have hlen : s.frameLen color + s.gapLen + 2 = s.frameLen color + 1 + s.gapLen + 1 := by omega
    rw [hlen]
    exact ⟨u, (runFor_succ_of_runFor hrun).trans hstep, hdone rfl⟩

end Frame

end Sys2Proof.Machine

namespace Sys2Proof.Proofs

open Sys2Proof.Machine

/-- Settles O43: every cycle is in the phase the closed form names, by induction on the cycle, and the cycle after the
last phase is `EXIT`. -/
theorem frameWaveformIsExact : Obligations.FrameWaveformIsExact := by
  intro s color hq hcolor hruns hl hen hnz hr
  have h : s.FrameReady color := ⟨hq, hcolor, hruns, hl, hen, hnz⟩
  refine ⟨fun k h1 hk => ?_, ?_⟩
  · obtain ⟨o, rfl⟩ : ∃ o, k = o + 1 := ⟨k - 1, by omega⟩
    obtain ⟨t, hrun, hc, hphase⟩ := h.run_bits (fun j hj => hr j (by omega)) o (by omega)
    obtain ⟨_, hbit⟩ := hphase.bit
    exact ⟨t, hrun, hbit.mask, hphase.line_eq hnz, hc.updActive, hbit.resp⟩
  · obtain ⟨t, hrun, _, hfin, _, hgap⟩ := h.run_exit hr
    exact ⟨t, hrun, hfin.mask, hfin.line, hfin.shift, hfin.bitcnt, fun hpos => ⟨(hgap hpos).seq, (hgap hpos).resp⟩⟩

/-- Settles O44: no cycle of the bit periods or of the gap responds, and the one after them does. -/
theorem frameDurationIsExact : Obligations.FrameDurationIsExact := by
  intro s color hq hcolor hact hl hen hnz hr hg
  have hruns := s.foregroundRuns_of_held hact (s.inpAt_zero ▸ hg 0 (by omega))
  have h : s.FrameReady color := ⟨hq, hcolor, hruns, hl, hen, hnz⟩
  refine ⟨fun k h1 hk => ?_, ?_⟩
  · rcases Nat.lt_or_ge (s.frameLen color + 1) k with hlt | hge
    · obtain ⟨o, rfl⟩ : ∃ o, k = s.frameLen color + 1 + o := ⟨k - (s.frameLen color + 1), by omega⟩
      obtain ⟨t, hrun, _, hgap⟩ := h.run_gap hr hg o (by omega) (by omega)
      exact ⟨t, hrun, hgap.resp⟩
    · obtain ⟨o, rfl⟩ : ∃ o, k = o + 1 := ⟨k - 1, by omega⟩
      obtain ⟨t, hrun, _, hphase⟩ := h.run_bits (fun j hj => hr j (by omega)) o (by omega)
      obtain ⟨_, hbit⟩ := hphase.bit
      exact ⟨t, hrun, hbit.resp⟩
  · obtain ⟨t, hrun, hdone⟩ := h.run_answers hr hg
    exact ⟨t, hrun, hdone.resp, hdone.seq, hdone.line, hdone.mask⟩

end Sys2Proof.Proofs

/-! SUPPORT and the family `42_acquisition_filter.md`: the sum of a ring, what a channel step makes of one channel, a
whole update as one map on all channels, and the window of the last 32 samples. -/

namespace Sys2Proof.Machine

/-! ## The sum of a ring (`42_acquisition_filter.md` R148, R150) -/

theorem ringSum_eq_sum (r : Vector Sample 32) : ringSum r = ∑ k : Fin 32, r[k].toNat := by
  have hslots : r.toList.map BitVec.toNat = List.ofFn fun k : Fin 32 => r[k].toNat :=
    List.ext_getElem (by rw [List.length_map, Vector.length_toList, List.length_ofFn]) fun i _ _ => by
      rw [List.getElem_map, Vector.getElem_toList, List.getElem_ofFn]; rfl
  rw [ringSum, hslots, List.sum_ofFn]

/-- A new sample in one slot. -/
theorem ringSum_set (r : Vector Sample 32) (k : Fin 32) (x : Sample) :
    ringSum (r.set k x) + r[k].toNat = ringSum r + x.toNat := by
  have hother : ∑ j ∈ Finset.univ.erase k, (r.set k x)[j].toNat = ∑ j ∈ Finset.univ.erase k, r[j].toNat :=
    Finset.sum_congr rfl fun j hj => by rw [getElem_set_fin, if_neg (Finset.ne_of_mem_erase hj).symm]
  have hk : (r.set k x)[k] = x := by rw [getElem_set_fin, if_pos rfl]
  have hnew := Finset.add_sum_erase _ (fun j : Fin 32 => (r.set k x)[j].toNat) (Finset.mem_univ k)
  have hold := Finset.add_sum_erase _ (fun j : Fin 32 => r[j].toNat) (Finset.mem_univ k)
  rw [ringSum_eq_sum, ringSum_eq_sum, ← hnew, ← hold, hother, hk]
  omega

theorem slot_le_ringSum (r : Vector Sample 32) (k : Fin 32) : r[k].toNat ≤ ringSum r := by
  rw [ringSum_eq_sum]
  exact Finset.single_le_sum (f := fun j => r[j].toNat) (fun _ _ => Nat.zero_le _) (Finset.mem_univ k)

theorem ringSum_le_of_slots_le {r : Vector Sample 32} {b : Nat} (h : ∀ k : Fin 32, r[k].toNat ≤ b) :
    ringSum r ≤ 32 * b := by
  rw [ringSum_eq_sum]
  exact (Finset.sum_le_card_nsmul Finset.univ _ b fun k _ => h k).trans_eq (by simp)

theorem ringSum_le (r : Vector Sample 32) : ringSum r ≤ 2097120 :=
  ringSum_le_of_slots_le fun k => Nat.le_of_lt_succ r[k].isLt

/-! ## Words that hold a sum or a sample (`20_memory.md` R60) -/

theorem setWidth_eq_zero {x : Sample} (h : x.setWidth 32 = 0) : x = 0 := by bv_omega

theorem toInt_eq_iff_toNat_eq {a : Word} {n : Nat} (hn : n < 2 ^ 31) : a.toInt = (n : Int) ↔ a.toNat = n := by
  have ha : a.toNat < 2 ^ 32 := a.isLt
  rw [BitVec.toInt_eq_toNat_cond]
  omega

/-- No sum of 32 samples reaches the sign bit. -/
theorem acc_holds_iff {a : Word} {r : Vector Sample 32} : a.toInt = (ringSum r : Int) ↔ a.toNat = ringSum r :=
  toInt_eq_iff_toNat_eq ((ringSum_le r).trans_lt (by decide))

/-- Below the sign bit the arithmetic shift is the quotient, and 16 bits hold it. -/
theorem toNat_filtered {a : Word} (h : a.toNat ≤ 2097120) : ((a.sshiftRight 5).setWidth 16).toNat = a.toNat / 32 := by
  have hmsb : a.msb = false := by rw [BitVec.msb_eq_false_iff_two_mul_lt]; omega
  rw [BitVec.sshiftRight_eq_of_msb_false hmsb, BitVec.toNat_setWidth, BitVec.toNat_ushiftRight,
    Nat.shiftRight_eq_div_pow]
  omega

/-! ## One channel (`42_acquisition_filter.md` R143, R148, R151) -/

/-- The filter's invariant for channel `c`. -/
def State.ChannelInv (s : State) (c : Fin 5) : Prop :=
  s.acc[c].toInt = (ringSum s.ring[c] : Int) ∧ (s.filt[c].toNat : Int) = s.acc[c].toInt / 32

theorem State.filterInv_iff (s : State) : s.FilterInv ↔ ∀ c, s.ChannelInv c := forall_and.symm

/-- `t` holds of channel `c` what the channel step makes of `s` (R143). -/
structure State.ChannelMoved (s t : State) (c : Fin 5) : Prop where
  acc : t.acc[c] = s.acc[c] - s.ring[c][s.slot].setWidth 32 + s.raw[c].setWidth 32
  ring : t.ring[c] = s.ring[c].set s.slot s.raw[c]
  filt : t.filt[c] = (t.acc[c].sshiftRight 5).setWidth 16

/-- `t` holds of channel `c` what `s` does. -/
structure State.ChannelKept (s t : State) (c : Fin 5) : Prop where
  acc : t.acc[c] = s.acc[c]
  ring : t.ring[c] = s.ring[c]
  filt : t.filt[c] = s.filt[c]

section Channels

variable {s t : State} {c : Fin 5}

/-- In the words of the five spaces (R143). -/
theorem State.ChannelMoved.memRead (h : s.ChannelMoved t c) :
    t.memRead (.acc c) = s.memRead (.acc c) - s.memRead (.ring c s.slot) + s.memRead (.raw c) ∧
    t.memRead (.filt c) = (((t.memRead (.acc c)).sshiftRight 5).setWidth 16).setWidth 32 ∧
    ∀ k : Fin 32, t.memRead (.ring c k) = if k = s.slot then s.memRead (.raw c) else s.memRead (.ring c k) := by
  refine ⟨h.acc, congrArg (BitVec.setWidth 32) h.filt, fun k => ?_⟩
  rw [State.memRead_ring, h.ring, getElem_set_fin]
  by_cases hk : k = s.slot
  · rw [if_pos hk, if_pos hk.symm]; rfl
  · rw [if_neg hk, if_neg (Ne.symm hk)]; rfl

theorem State.ChannelKept.trans {u : State} (h1 : s.ChannelKept t c) (h2 : t.ChannelKept u c) :
    s.ChannelKept u c :=
  ⟨h2.acc.trans h1.acc, h2.ring.trans h1.ring, h2.filt.trans h1.filt⟩

theorem State.ChannelMoved.of_kept {u : State} (h1 : s.ChannelMoved t c) (h2 : t.ChannelKept u c) :
    s.ChannelMoved u c :=
  ⟨h2.acc.trans h1.acc, h2.ring.trans h1.ring, by rw [h2.filt, h2.acc]; exact h1.filt⟩

/-- A channel step in `t` is one in `s` as far as channel `c` goes. -/
theorem State.ChannelKept.moved {u : State} (h1 : s.ChannelKept t c) (hslot : t.slot = s.slot)
    (hraw : t.raw = s.raw) (h2 : t.ChannelMoved u c) : s.ChannelMoved u c where
  acc := by rw [h2.acc, h1.acc, h1.ring, hraw]; simp only [hslot]
  ring := by rw [h2.ring, h1.ring, hraw]; simp only [hslot]
  filt := h2.filt

/-- The oldest sample leaves the sum and the new one enters it, without wrapping. -/
theorem State.ChannelMoved.inv (h : s.ChannelMoved t c) (hs : s.acc[c].toInt = (ringSum s.ring[c] : Int)) :
    t.ChannelInv c := by
  have hmoved := ringSum_set s.ring[c] s.slot s.raw[c]
  have hold := slot_le_ringSum s.ring[c] s.slot
  have hle := ringSum_le (s.ring[c].set s.slot s.raw[c])
  have hle' := ringSum_le s.ring[c]
  have hx : s.raw[c].toNat < 2 ^ 16 := s.raw[c].isLt
  have hacc : t.acc[c].toNat = ringSum t.ring[c] := by
    rw [acc_holds_iff] at hs
    rw [h.acc, h.ring, BitVec.toNat_add, BitVec.toNat_sub, BitVec.toNat_setWidth_of_le (by decide),
      BitVec.toNat_setWidth_of_le (by decide)]
    omega
  have hsum := acc_holds_iff.2 hacc
  have hfilt := toNat_filtered (hacc.trans_le (ringSum_le _))
  refine ⟨hsum, ?_⟩
  rw [h.filt, hfilt, hsum, hacc]
  rfl

theorem State.ChannelKept.inv (h : s.ChannelKept t c) (hs : s.ChannelInv c) : t.ChannelInv c := by
  unfold State.ChannelInv
  rw [h.acc, h.ring, h.filt]
  exact hs

theorem State.channelInv_of_zero (hring : ∀ k : Fin 32, s.ring[c][k] = 0) (hacc : s.acc[c] = 0)
    (hfilt : s.filt[c] = 0) : s.ChannelInv c := by
  have hsum : ringSum s.ring[c] = 0 :=
    Nat.le_zero.1 (ringSum_le_of_slots_le (b := 0) fun k => by rw [hring k]; rfl)
  rw [State.ChannelInv, hsum, hacc, hfilt]
  exact ⟨rfl, rfl⟩

theorem State.channelStep_moved (s : State) (c : Fin 5) : s.ChannelMoved (s.channelStep c) c := by
  obtain ⟨hacc, hring, hfilt⟩ := s.channelStep_spaces c
  exact ⟨by simp [hacc], by simp [hring], by simp [hacc, hfilt]⟩

/-- A channel step writes no word but the three of its channel (R143). -/
theorem State.channelStep_memRead_other (s : State) (c : Fin 5) {a : MemAddr} (hacc : a ≠ .acc c)
    (hring : a ≠ .ring c s.slot) (hfilt : a ≠ .filt c) : (s.channelStep c).memRead a = s.memRead a := by
  have hupd (t : State) : ({ t with updCh := t.updCh + 1 } : State).memRead a = t.memRead a := by cases a <;> rfl
  rw [State.channelStep, hupd, State.memRead_memWrite_other _ _ _ _ hfilt,
    State.memRead_memWrite_other _ _ _ _ hring, State.memRead_memWrite_other _ _ _ _ hacc]

theorem State.channelStep_kept (s : State) {c c' : Fin 5} (h : c ≠ c') : s.ChannelKept (s.channelStep c) c' := by
  obtain ⟨hacc, hring, hfilt⟩ := s.channelStep_spaces c
  exact ⟨by rw [hacc, getElem_set_fin, if_neg h], by rw [hring, getElem_set_fin, if_neg h],
    by rw [hfilt, getElem_set_fin, if_neg h]⟩

end Channels

/-! ## One step of each operation (R140 to R147) -/

theorem exec_acqrd (ch : Word) (s : State) :
    exec (.acqrd ch) s = if h : ch.toNat < 5 then .next (s.respond (s.memRead (.filt ⟨ch.toNat, h⟩)))
      else .next (s.raiseFault .badChannel) := rfl

theorem exec_acqinit (s : State) :
    exec .acqinit s = .next (s.clearFilter.respond (s.inp.cfgFail.setWidth 32)) := rfl

theorem exec_update_of_channel {s : State} (ha : s.updActive = true) {c : Fin 5} (hc : s.updCh.toNat = c.val) :
    exec .update s = .next (s.channelStep c) := by
  have hlt : s.updCh.toNat < 5 := hc ▸ c.isLt
  have hch : (⟨s.updCh.toNat, hlt⟩ : Fin 5) = c := Fin.ext hc
  simp [exec, execUpdate, ha, hlt, hch]

theorem exec_update_of_cursor {s : State} (ha : s.updActive = true) (hc : s.updCh = 5) :
    exec .update s = .next s.leaveUpdate := by
  simp [exec, execUpdate, ha, hc]

theorem exec_update_of_eligible {s : State} (h : s.eligible = true) : exec .update s = .next s.enterUpdate := by
  have ha : s.updActive = false := by simp_all [State.eligible]
  simp [exec, execUpdate, ha, h]

/-! ## The invariant under every step (R148, R151) -/

theorem State.channelStep_filterInv {s : State} (h : s.FilterInv) (c : Fin 5) : (s.channelStep c).FilterInv := by
  rw [State.filterInv_iff] at h ⊢
  intro c'
  by_cases hc : c = c'
  · subst hc
    exact (s.channelStep_moved c).inv (h c).1
  · exact (s.channelStep_kept hc).inv (h c')

theorem State.clearFilter_filterInv (s : State) : s.clearFilter.FilterInv := by
  rw [State.filterInv_iff]
  intro c
  exact State.channelInv_of_zero (by simp) (by simp) (by simp)

/-- Reset leaves the filter as `ACQINIT` does (`10_state.md` R47). -/
theorem State.takeReset_filterInv (s : State) : s.takeReset.FilterInv := s.clearFilter_filterInv

theorem execUpdate_keeps_filterInv {s t : State} (h : s.FilterInv) (hstep : execUpdate s = .next t) : t.FilterInv := by
  rcases execUpdate_cases hstep with ⟨_, _, rfl⟩ | ⟨_, _, rfl⟩ | ⟨_, _, rfl⟩ | ⟨_, _, rfl⟩
  · exact State.channelStep_filterInv h _
  · exact h
  · exact h
  · exact h

/-- `UPDATE` moves the window, `ACQINIT` clears it, and nothing else writes the filter. -/
theorem State.AgentLeaves.filterInv {s u : State} (hu : s.AgentLeaves u) (h : s.FilterInv) : u.FilterInv := by
  cases hu with
  | idle hT => exact h
  | handler hT hexec => exact execUpdate_keeps_filterInv (s := s.beginCycle) h hexec
  | @command _ i hT hi hexec =>
    by_cases ha : i = .acqinit
    · subst ha
      cases hexec
      exact s.clearFilter_filterInv
    · have hu : i ≠ .update := fun hu => s.fetch_ne_update (hu ▸ hi)
      rw [exec_keeps_filter hexec hu ha]
      exact h
  | illegal hT hi => exact h

/-! ## A whole update (R142) -/

/-- `k` steps of an operation and one step more. -/
theorem execFor_succ_of_execFor {i : Instr} {k : Nat} {s t : State} (h : execFor i k s = .next t) :
    execFor i (k + 1) s = exec i t := by
  induction k generalizing s with
  | zero =>
    cases h
    cases hs : exec i t <;> simp [execFor, hs]
  | succ k ih =>
    rw [execFor] at h ⊢
    cases hs : exec i s with
    | next u => rw [hs] at h; exact ih h
    | fault r => rw [hs] at h; cases h
    | refused r => rw [hs] at h; cases h

/-- `t` is the state after the start step in `s` and the first `k` channel steps. -/
structure State.ChannelsDone (s : State) (k : Nat) (t : State) : Prop where
  frame : t = { s.enterUpdate with acc := t.acc, ring := t.ring, filt := t.filt, updCh := BitVec.ofNat 3 k }
  moved : ∀ c : Fin 5, c.val < k → s.ChannelMoved t c
  kept : ∀ c : Fin 5, k ≤ c.val → s.ChannelKept t c

/-- The channel step moves the channel it is for and keeps the others, done or to come. -/
theorem State.ChannelsDone.next {s t : State} {c : Fin 5} (h : s.ChannelsDone c t) :
    s.ChannelsDone (c + 1) (t.channelStep c) where
  frame := by
    rw [State.channelStep_frame, BitVec.ofNat_add, h.frame]
    rfl
  moved c' hc' := by
    by_cases hcc : c = c'
    · subst hcc
      exact (h.kept c le_rfl).moved (by rw [h.frame]; rfl) (by rw [h.frame]; rfl) (t.channelStep_moved c)
    · have hne : c.val ≠ c'.val := fun he => hcc (Fin.ext he)
      exact (h.moved c' (by omega)).of_kept (t.channelStep_kept hcc)
  kept c' hc' := by
    have hcc : c ≠ c' := fun he => by subst he; omega
    exact (h.kept c' (by omega)).trans (t.channelStep_kept hcc)

theorem execFor_update_channels {s : State} (he : s.eligible = true) {k : Nat} (hk : k ≤ 5) :
    ∃ t, execFor .update (k + 1) s = .next t ∧ s.ChannelsDone k t := by
  induction k with
  | zero =>
    have hstart : execFor .update 1 s = .next s.enterUpdate :=
      (execFor_succ_of_execFor (k := 0) rfl).trans (exec_update_of_eligible he)
    exact ⟨_, hstart, rfl, fun _ hc => absurd hc (Nat.not_lt_zero _), fun c _ => ⟨rfl, rfl, rfl⟩⟩
  | succ k ih =>
    obtain ⟨t, hrun, ht⟩ := ih (by omega)
    have ha : t.updActive = true := by rw [ht.frame]; rfl
    have hc : t.updCh.toNat = (⟨k, hk⟩ : Fin 5).val := by
      rw [ht.frame]
      exact (BitVec.toNat_ofNat _ _).trans (Nat.mod_eq_of_lt (by omega))
    exact ⟨_, (execFor_succ_of_execFor hrun).trans (exec_update_of_channel ha hc), ht.next (c := ⟨k, hk⟩)⟩

/-- `t` is the state after a whole update in `s`. -/
structure State.Updated (s t : State) : Prop where
  frame : t = { s with
    acc := t.acc, ring := t.ring, filt := t.filt
    cursor := s.cursor + 1, scanPend := false, updActive := false, updCh := 0, scanAck := true }
  moved : ∀ c : Fin 5, s.ChannelMoved t c

theorem execFor_update_whole {s : State} (he : s.eligible = true) :
    ∃ t, execFor .update 7 s = .next t ∧ s.Updated t := by
  obtain ⟨t, hrun, ht⟩ := execFor_update_channels he le_rfl
  have ha : t.updActive = true := by rw [ht.frame]; rfl
  have hc : t.updCh = 5 := by rw [ht.frame]; rfl
  refine ⟨_, (execFor_succ_of_execFor hrun).trans (exec_update_of_cursor ha hc), ?_, fun c => ?_⟩
  · rw [ht.frame]
    rfl
  · exact (ht.moved c c.isLt).of_kept ⟨rfl, rfl, rfl⟩

/-! ## The moving window (R149) -/

/-- The `i`-th newest sample of channel `c`: the cursor names the slot of the oldest. -/
def State.sample (s : State) (c : Fin 5) (i : Fin 32) : Sample := s.ring[c][s.slot - 1 - i]

/-- The samples of channel `c`, the newest first. -/
def State.window (s : State) (c : Fin 5) : List Sample := List.ofFn (s.sample c)

theorem State.window_length (s : State) (c : Fin 5) : (s.window c).length = 32 := List.length_ofFn

/-- Wherever the cursor stands the window holds each slot once. -/
theorem State.ringSum_eq_window (s : State) (c : Fin 5) : ringSum s.ring[c] = ((s.window c).map BitVec.toNat).sum := by
  rw [State.window, List.map_ofFn, List.sum_ofFn, ringSum_eq_sum]
  exact (Equiv.sum_comp (Equiv.subLeft (s.slot - 1)) fun k => s.ring[c][k].toNat).symm

/-- Both the cursor and the slot it names count modulo 32 (R144). -/
theorem State.slot_of_cursor_succ {s t : State} (h : t.cursor = s.cursor + 1) : t.slot = s.slot + 1 := by
  apply Fin.ext
  rw [Fin.val_add]
  simp [State.slot, h]

theorem State.window_of_zero {s : State} {c : Fin 5} (h : ∀ k : Fin 32, s.ring[c][k] = 0) :
    s.window c = List.replicate 32 0#16 := by
  have hzero : s.sample c = fun _ => 0 := funext fun i => h _
  rw [State.window, hzero, List.ofFn_const]
  rfl

/-- Zeros behind the samples add nothing. -/
theorem sum_take_append_zeros (l : List Sample) (n : Nat) :
    (((l ++ List.replicate n 0#16).take n).map BitVec.toNat).sum = ((l.take n).map BitVec.toNat).sum := by
  rw [List.take_append, List.map_append, List.sum_append, List.take_replicate, List.map_replicate,
    List.sum_replicate, BitVec.toNat_zero, smul_zero, add_zero]

theorem State.Updated.sample_zero {s t : State} (h : s.Updated t) (c : Fin 5) : t.sample c 0 = s.raw[c] := by
  have hslot : t.slot = s.slot + 1 := State.slot_of_cursor_succ (by rw [h.frame])
  rw [State.sample, (h.moved c).ring, getElem_set_fin, hslot, add_sub_cancel_right, sub_zero, if_pos rfl]

theorem State.Updated.sample_succ {s t : State} (h : s.Updated t) (c : Fin 5) (j : Fin 31) :
    t.sample c j.succ = s.sample c j.castSucc := by
  have hslot : t.slot = s.slot + 1 := State.slot_of_cursor_succ (by rw [h.frame])
  have hne : s.slot ≠ s.slot - j.succ := fun he => Fin.succ_ne_zero j (sub_eq_self.1 he.symm)
  rw [State.sample, (h.moved c).ring, getElem_set_fin, hslot, add_sub_cancel_right, if_neg hne,
    ← Fin.coeSucc_eq_succ, sub_add_eq_sub_sub_swap]
  rfl

/-- An update pushes the sample read in front of the window, and the oldest falls out. -/
theorem State.Updated.window_eq {s t : State} (h : s.Updated t) (c : Fin 5) :
    t.window c = (s.raw[c] :: s.window c).take 32 := by
  have hkept : (s.window c).take 31 = List.ofFn fun j : Fin 31 => s.sample c j.castSucc := by
    rw [State.window, List.ofFn_succ', List.concat_eq_append]
    exact List.take_left' List.length_ofFn
  rw [List.take_succ_cons, hkept, State.window, List.ofFn_succ, h.sample_zero]
  simp only [h.sample_succ]

/-! ## Passes (R149, R152, R153) -/

/-- The interrupt is armed and unmasked, and no update is active. -/
structure State.Receptive (s : State) : Prop where
  armed : s.irqArmed = true
  unmasked : s.irqMask = false
  inactive : s.updActive = false

/-- `ENV` has written the five samples `x` and raised the event. -/
def State.withScan (s : State) (x : Vector Sample 5) : State := { s with raw := x, scanPend := true }

theorem State.Receptive.eligible {s : State} (h : s.Receptive) (x : Vector Sample 5) : (s.withScan x).eligible = true := by
  simp [State.eligible, State.withScan, h.armed, h.unmasked, h.inactive]

theorem State.Receptive.of_updated {s t : State} {x : Vector Sample 5} (h : s.Receptive)
    (ht : (s.withScan x).Updated t) : t.Receptive := by
  rw [ht.frame]
  exact ⟨h.armed, h.unmasked, rfl⟩

theorem State.Updated.filterInv {s t : State} (h : s.Updated t) (hs : s.FilterInv) : t.FilterInv :=
  t.filterInv_iff.2 fun c => (h.moved c).inv (hs.1 c)

theorem runPasses_cons {s t : State} {x : Vector Sample 5} (xs : List (Vector Sample 5))
    (h : execFor .update 7 (s.withScan x) = .next t) : runPasses (x :: xs) s = runPasses xs t := by
  rw [State.withScan] at h
  rw [runPasses, h]

/-- Passes push their samples in front of the window, the newest first, and keep the invariant. -/
theorem runPasses_window {s : State} (xs : List (Vector Sample 5)) (h : s.Receptive) (hs : s.FilterInv) :
    ∃ t, runPasses xs s = .next t ∧ t.FilterInv ∧
      ∀ c : Fin 5, t.window c = ((xs.map fun x => x[c]).reverse ++ s.window c).take 32 := by
  induction xs generalizing s with
  | nil =>
    exact ⟨s, rfl, hs, fun c => (List.take_of_length_le (s.window_length c).le).symm⟩
  | cons x xs ih =>
    obtain ⟨u, hrun, hu⟩ := execFor_update_whole (h.eligible x)
    have hinv : u.FilterInv := hu.filterInv hs
    obtain ⟨t, hruns, ht, hwindow⟩ := ih (h.of_updated hu) hinv
    refine ⟨t, (runPasses_cons xs hrun).trans hruns, ht, fun c => ?_⟩
    have hpush : u.window c = (x[c] :: s.window c).take 32 := hu.window_eq c
    rw [hwindow c, hpush, List.map_cons, List.reverse_cons, List.append_assoc, List.singleton_append,
      List.take_append, List.take_append, List.take_take, Nat.min_eq_left (Nat.sub_le _ _)]

/-- What the invariant says of a window whose samples are known. -/
theorem State.ChannelInv.of_window {t : State} {c : Fin 5} {n : Nat} (h : t.ChannelInv c)
    (hw : ((t.window c).map BitVec.toNat).sum = n) : t.acc[c].toInt = (n : Int) ∧ t.filt[c].toNat = n / 32 := by
  obtain ⟨hsum, hout⟩ := h
  rw [t.ringSum_eq_window, hw] at hsum
  rw [hsum] at hout
  exact ⟨hsum, by exact_mod_cast hout⟩

end Sys2Proof.Machine

namespace Sys2Proof.Proofs

open Sys2Proof.Machine

/-- Settles O57: reset clears the filter; otherwise the agent keeps the invariant, and the clock edge writes nothing of
it. -/
theorem stepKeepsFilterInv : Obligations.StepKeepsFilterInv := by
  intro s t h hstep
  cases hr : s.inp.rst with
  | true =>
    rw [step_of_reset s (s.turn_eq_reset hr)] at hstep
    cases hstep
    exact s.takeReset_filterInv
  | false =>
    obtain ⟨u, hu, rfl⟩ := agentLeaves_of_step hr hstep
    exact hu.filterInv h

/-- Settles O52: after the five channel steps every channel has moved, by induction on the steps. -/
theorem wholeUpdate : Obligations.WholeUpdate := by
  intro s he
  obtain ⟨t, hrun, ht⟩ := execFor_update_whole he
  exact ⟨t, hrun, fun c => (ht.moved c).memRead, ht.frame⟩

/-- Settles O53: the window of a cleared filter holds zeros, which the samples push out. -/
theorem movingWindow : Obligations.MovingWindow := by
  intro s xs harmed hmask hact hring hout
  have hslot (c : Fin 5) (k : Fin 32) : s.ring[c][k] = 0 := setWidth_eq_zero (hring c k)
  have hinv : s.FilterInv := s.filterInv_iff.2 fun c =>
    State.channelInv_of_zero (hslot c) (hout c).1 (setWidth_eq_zero (hout c).2)
  obtain ⟨t, hrun, ht, hwindow⟩ := runPasses_window xs ⟨harmed, hmask, hact⟩ hinv
  refine ⟨t, hrun, fun c => (t.filterInv_iff.1 ht c).of_window ?_⟩
  rw [hwindow c, State.window_of_zero (hslot c), sum_take_append_zeros, ← List.map_reverse, ← List.map_take,
    List.map_map]
  rfl

/-- Settles O54: the 32 samples are the whole window. -/
theorem constantInputConverges : Obligations.ConstantInputConverges := by
  intro s xs c v hinv harmed hmask hact hlen hall
  obtain ⟨t, hrun, ht, hwindow⟩ := runPasses_window xs ⟨harmed, hmask, hact⟩ hinv
  have hw : t.window c = List.replicate 32 v := by
    have hmap : xs.map (fun x => x[c]) = List.replicate 32 v := by
      rw [List.map_eq_replicate_iff.2 hall, hlen]
    rw [hwindow c, hmap, List.reverse_replicate, List.take_left' List.length_replicate]
  obtain ⟨hacc, hfilt⟩ := (t.filterInv_iff.1 ht c).of_window (n := 32 * v.toNat) (by
    rw [hw, List.map_replicate, List.sum_replicate, smul_eq_mul])
  have hv : v.toNat < 2 ^ 16 := v.isLt
  exact ⟨t, hrun, (toInt_eq_iff_toNat_eq (by omega)).1 hacc, BitVec.eq_of_toNat_eq (by omega)⟩

/-- Settles O55: the bounds of a sum of 32 samples. -/
theorem accumulatorRange : Obligations.AccumulatorRange := by
  intro s h c
  have hle := ringSum_le s.ring[c]
  rw [h c]
  refine ⟨Int.natCast_nonneg _, by exact_mod_cast hle, fun k => ?_, fun hlegal => ?_⟩
  · exact_mod_cast slot_le_ringSum s.ring[c] k
  · exact_mod_cast ringSum_le_of_slots_le hlegal

/-- Settles O46: the filter is cleared, and the response is the register sampled. -/
theorem acqinitClearsAndArms : Obligations.AcqinitClearsAndArms := by
  intro s
  have hring (c : Fin 5) (k : Fin 32) : s.clearFilter.memRead (.ring c k) = 0 := by simp
  have hout (c : Fin 5) : s.clearFilter.memRead (.acc c) = 0 ∧ s.clearFilter.memRead (.filt c) = 0 := by simp
  exact ⟨_, exec_acqinit s, hring, hout, rfl, rfl⟩

/-- Settles O47: the channel names a word of `FILT`. -/
theorem acqrdRespondsFilteredWord : Obligations.AcqrdRespondsFilteredWord := by
  intro s ch h
  rw [exec_acqrd, dif_pos h]
  rfl

/-- Settles O48: the channel names no word, so the command faults. -/
theorem acqrdOutOfRangeRaisesBadChannel : Obligations.AcqrdOutOfRangeRaisesBadChannel := by
  intro s ch h
  rw [exec_acqrd, dif_neg (Nat.not_lt.2 h)]
  exact ⟨_, rfl⟩

/-- Settles O50: the channel moves, and no other word is written. -/
theorem updateChannelStep : Obligations.UpdateChannelStep := by
  intro s c ha hc
  obtain ⟨hacc, hfilt, hring⟩ := (s.channelStep_moved c).memRead
  have hnext : (s.channelStep c).updCh.toNat = c.val + 1 := by
    have hlt := c.isLt
    rw [State.channelStep_updCh]
    bv_omega
  exact ⟨_, exec_update_of_channel ha hc, hacc, (hring s.slot).trans (if_pos rfl), hfilt,
    fun _ => s.channelStep_memRead_other c, hnext, s.channelStep_frame c⟩

/-- Settles O51: the sum in 5 bits is the sum modulo 32. -/
theorem updateCursorStep : Obligations.UpdateCursorStep :=
  fun s ha hc => ⟨s.cursor + 1, BitVec.toNat_add _ _, exec_update_of_cursor ha hc⟩

end Sys2Proof.Proofs

/-! SUPPORT and the family `60_exceptions.md`: when an update starts, and what the agents do to `SCAN_PEND`
(R167, R169). -/

namespace Sys2Proof.Machine

/-- An update starts exactly where it is the handler's turn and none is active (`60_exceptions.md` R169). -/
theorem State.updStarts_eq (s : State) (hr : s.inp.rst = false) :
    s.updStarts = decide (s.turn = .handler ∧ s.updActive = false) := by
  cases ha : s.updActive with
  | true => simp [State.updStarts, State.eligible, ha]
  | false =>
    cases hst : s.updStarts with
    | true => simp [State.turn, hr, ha, hst]
    | false =>
      have hT : s.turn ≠ .handler := by
        simp only [State.turn, hr, ha, hst, Bool.false_eq_true, if_false]
        split <;> simp
      simp [hT]

/-- Of the agents only an update's start step and `ACQINIT` clear `SCAN_PEND`, and none sets it
(`60_exceptions.md` R167). -/
theorem State.AgentLeaves.scanPend_eq {s u : State} (h : s.AgentLeaves u) (hr : s.inp.rst = false) :
    u.scanPend =
      (s.scanPend && !s.updStarts && !decide (s.turn = .foreground ∧ s.fetch = .ok .acqinit)) := by
  rw [s.updStarts_eq hr]
  cases h with
  | idle hT => simp [hT]
  | handler hT hu =>
    rcases execUpdate_cases hu with ⟨(ha : s.updActive = true), _, rfl⟩ | ⟨(ha : s.updActive = true), _, rfl⟩ |
      ⟨(ha : s.updActive = false), _, rfl⟩ | ⟨(ha : s.updActive = false), (he : s.eligible = false), rfl⟩
    · simp [hT, ha]
    · simp [hT, ha]
    · simp [hT, ha]
    · have hstarts : s.updStarts = true := by simp [s.updStarts_eq hr, hT, ha]
      simp [State.updStarts, he] at hstarts
  | @command _ i hT hi hu =>
    by_cases ha : i = .acqinit
    · subst ha; cases hu; simp [hT, hi]
    · have hu' : i ≠ .update := fun h => s.fetch_ne_update (h ▸ hi)
      rw [exec_keeps_filter hu hu' ha]; simp [hT, hi, ha]
  | illegal hT hi => simp [hT, hi]

/-- Where no update is active and none may start, `UPDATE` has no step to take (`60_exceptions.md` R169; log 19). -/
theorem exec_update_of_ineligible {s : State} (ha : s.updActive = false) (he : s.eligible = false) :
    exec .update s = .next s := by
  simp [exec, execUpdate, ha, he]

end Sys2Proof.Machine

namespace Sys2Proof.Proofs

open Sys2Proof.Machine

/-- Settles O14: the agent clears, and the clock edge, which comes after it, sets. -/
theorem scanEventBecomesPending : Obligations.ScanEventBecomesPending := by
  intro s t hr h
  obtain ⟨u, hu, rfl⟩ := agentLeaves_of_step hr h
  rw [State.endCycle_scanPend, hu.scanPend_eq hr]
  by_cases hset : s.inp.scanDone = true ∧ s.irqArmed = true
  · simp [hset]
  · have hset' : (s.inp.scanDone && s.irqArmed) = false := by simpa using hset
    rw [if_neg hset, hset', Bool.false_or]
    split
    · next hst => simp [hst]
    · next hst =>
      by_cases hacq : s.turn = .foreground ∧ s.fetch = .ok .acqinit
      · rw [if_pos hacq, decide_eq_true hacq, Bool.not_true, Bool.and_false]
      · rw [if_neg hacq, decide_eq_false hacq]
        simp [hst]

/-- Settles O59: the only stops are in states whose control registers do not agree. -/
theorem coherentStepNeverStops : Obligations.CoherentStepNeverStops :=
  fun s h => (step_answers_or_incoherent s).resolve_right fun hstop => hstop.2 h

/-- Settles O9: it is the foreground's turn, and the word in `CMDREG` does not decode. -/
theorem illegalCommandRaisesFault : Obligations.IllegalCommandRaisesFault := by
  intro s hr hruns hbusy hop
  have hfetch : s.fetch = .error (.illegalCommand (opField s.cmdreg)) := decode_of_illegal hop
  exact ⟨_, step_of_illegal s _ (s.turn_foreground hr hruns hbusy) hfetch⟩

/-- Settles O49: the two cases are those of `State.eligible`. -/
theorem updateStartsInEligibleCycles : Obligations.UpdateStartsInEligibleCycles := by
  intro s ha
  refine ⟨fun hpend harmed hmask => ?_, fun hnot => ?_⟩
  · have he : s.eligible = true := by simp [State.eligible, hpend, harmed, hmask, ha]
    exact exec_update_of_eligible he
  · have he : s.eligible = false := by
      rcases hnot with h | h | h <;> simp [State.eligible, h]
    exact exec_update_of_ineligible ha he

end Sys2Proof.Proofs
